-- ==== Sys2Proof/Word.lean ====
section
/-! DEFINITION. The two word widths of the engine (spec/00_scope.md R7): 8-bit data and 16-bit addresses. All arithmetic on them wraps (R9). -/

namespace Sys2Proof

/-- An 8-bit datum: a register, a memory byte, a port number or a port value (R7). -/
abbrev Byte := BitVec 8

/-- A 16-bit value: a register pair or an address (R7). -/
abbrev Word := BitVec 16

end Sys2Proof
end

