-- ==== Sys2Proof/Syntax.lean ====
section
/-! DEFINITION. The instructions as syntax: the operand codes (spec/30_encoding.md R102-R107) and one constructor for each row of spec/opcode_table.json. -/

namespace Sys2Proof

/-- A 3-bit code: a field `y` or `z` of an opcode byte (R101), a bit number, or an RST code. -/
inductive Oct where
  | o0 | o1 | o2 | o3 | o4 | o5 | o6 | o7
  deriving DecidableEq, Repr

/-- The number of a 3-bit code. -/
def Oct.toNat (k : Oct) : Nat :=
  match k with
  | .o0 => 0
  | .o1 => 1
  | .o2 => 2
  | .o3 => 3
  | .o4 => 4
  | .o5 => 5
  | .o6 => 6
  | .o7 => 7

/-- The 8-bit registers a code r names (R102); code 6 is the memory operand and names none. -/
inductive Reg8 where
  | b | c | d | e | h | l | a
  deriving DecidableEq, Repr

/-- The register pairs of code rp (R103). -/
inductive RegPair where
  | bc | de | hl | sp
  deriving DecidableEq, Repr

/-- The register pairs of code rp2 (R104). -/
inductive StackPair where
  | bc | de | hl | af
  deriving DecidableEq, Repr

/-- The register pairs of code rp after a DD or FD prefix: code 2 is the index register (R103). -/
inductive IdxPair where
  | bc | de | xy | sp
  deriving DecidableEq, Repr

/-- The index registers: IX after DD, IY after FD (R25 of spec/10_state.md). -/
inductive Idx where
  | ix | iy
  deriving DecidableEq, Repr

/-- The condition codes cc (R105). -/
inductive Cond where
  | nz | z | nc | c | po | pe | p | m
  deriving DecidableEq, Repr

/-- The condition codes of JR cc (R105). -/
inductive JrCond where
  | nz | z | nc | c
  deriving DecidableEq, Repr

/-- The condition a JR code tests. -/
def JrCond.cond (cc : JrCond) : Cond :=
  match cc with
  | .nz => .nz
  | .z => .z
  | .nc => .nc
  | .c => .c

/-- The ALU operation codes (R106). -/
inductive AluOp where
  | add | adc | sub | sbc | and | xor | or | cp
  deriving DecidableEq, Repr

/-- The rotate and shift codes (R107). -/
inductive Rot where
  | rlc | rrc | rl | rr | sla | sra | sll | srl
  deriving DecidableEq, Repr

/-- The instructions, one constructor for each row of spec/opcode_table.json. An operand `d` or `e` is the byte as it stands in the
instruction; `y` and `z` keep the code bits of an undocumented mirror (assumption log 13); `op` is the byte passed to the hook (R135).
The rows with operands come first, each part in the table's order: Lean's compiler numbers no more than 244 constructors that hold data. -/
inductive Instr where
  /-- `DJNZ e`, R334. -/
  | djnz (e : Byte)
  /-- `JR e`, R332. -/
  | jr (e : Byte)
  /-- `JR cc,e`, R333. -/
  | jrCc (cc : JrCond) (e : Byte)
  /-- `LD rp,nn`, R190. -/
  | ldRpNn (rp : RegPair) (nn : Word)
  /-- `ADD HL,rp`, R280. -/
  | addHLRp (rp : RegPair)
  /-- `LD (nn),HL`, R195. -/
  | ldIndNnHL (nn : Word)
  /-- `LD (nn),A`, R180. -/
  | ldIndNnA (nn : Word)
  /-- `LD HL,(nn)`, R192. -/
  | ldHLIndNn (nn : Word)
  /-- `LD A,(nn)`, R173. -/
  | ldAIndNn (nn : Word)
  /-- `INC rp`, R284. -/
  | incRp (rp : RegPair)
  /-- `DEC rp`, R285. -/
  | decRp (rp : RegPair)
  /-- `INC r`, R245. -/
  | incR (r : Reg8)
  /-- `DEC r`, R248. -/
  | decR (r : Reg8)
  /-- `LD (HL),n`, R165. -/
  | ldIndHLN (n : Byte)
  /-- `LD r,n`, R162. -/
  | ldRN (r : Reg8) (n : Byte)
  /-- `LD r,(HL)`, R163. -/
  | ldRIndHL (r : Reg8)
  /-- `LD (HL),r`, R164. -/
  | ldIndHLR (r : Reg8)
  /-- `LD r,r'`, R161. -/
  | ldRR (r : Reg8) (r' : Reg8)
  /-- `ADD A,r`, R237. -/
  | addAR (r : Reg8)
  /-- `ADC A,r`, R238. -/
  | adcAR (r : Reg8)
  /-- `SUB r`, R239. -/
  | subR (r : Reg8)
  /-- `SBC A,r`, R240. -/
  | sbcAR (r : Reg8)
  /-- `AND r`, R241. -/
  | andR (r : Reg8)
  /-- `XOR r`, R242. -/
  | xorR (r : Reg8)
  /-- `OR r`, R243. -/
  | orR (r : Reg8)
  /-- `CP r`, R244. -/
  | cpR (r : Reg8)
  /-- `RET cc`, R340. -/
  | retCc (cc : Cond)
  /-- `POP qq`, R199. -/
  | popQq (qq : StackPair)
  /-- `JP cc,nn`, R331. -/
  | jpCcNn (cc : Cond) (nn : Word)
  /-- `JP nn`, R330. -/
  | jpNn (nn : Word)
  /-- `OUT (n),A`, R363. -/
  | outPortNA (n : Byte)
  /-- `IN A,(n)`, R360. -/
  | inAPortN (n : Byte)
  /-- `CALL cc,nn`, R338. -/
  | callCcNn (cc : Cond) (nn : Word)
  /-- `PUSH qq`, R198. -/
  | pushQq (qq : StackPair)
  /-- `CALL nn`, R337. -/
  | callNn (nn : Word)
  /-- `ADD A,n`, R237. -/
  | addAN (n : Byte)
  /-- `ADC A,n`, R238. -/
  | adcAN (n : Byte)
  /-- `SUB n`, R239. -/
  | subN (n : Byte)
  /-- `SBC A,n`, R240. -/
  | sbcAN (n : Byte)
  /-- `AND n`, R241. -/
  | andN (n : Byte)
  /-- `XOR n`, R242. -/
  | xorN (n : Byte)
  /-- `OR n`, R243. -/
  | orN (n : Byte)
  /-- `CP n`, R244. -/
  | cpN (n : Byte)
  /-- `RST p`, R343. -/
  | rst (p : Oct)
  /-- `RLC r`, R306. -/
  | rlcR (r : Reg8)
  /-- `RRC r`, R307. -/
  | rrcR (r : Reg8)
  /-- `RL r`, R308. -/
  | rlR (r : Reg8)
  /-- `RR r`, R309. -/
  | rrR (r : Reg8)
  /-- `SLA r`, R310. -/
  | slaR (r : Reg8)
  /-- `SRA r`, R311. -/
  | sraR (r : Reg8)
  /-- `SLL r`, R312. -/
  | sllR (r : Reg8)
  /-- `SRL r`, R313. -/
  | srlR (r : Reg8)
  /-- `BIT b,(HL)`, R315. -/
  | bitBIndHL (b : Oct)
  /-- `BIT b,r`, R314. -/
  | bitBR (b : Oct) (r : Reg8)
  /-- `RES b,(HL)`, R317. -/
  | resBIndHL (b : Oct)
  /-- `RES b,r`, R317. -/
  | resBR (b : Oct) (r : Reg8)
  /-- `SET b,(HL)`, R318. -/
  | setBIndHL (b : Oct)
  /-- `SET b,r`, R318. -/
  | setBR (b : Oct) (r : Reg8)
  /-- `unsupported ED (hook)`, R135. -/
  | unsupportedED00 (op : Byte)
  /-- `unsupported ED (hook)`, R135. -/
  | unsupportedED80 (op : Byte)
  /-- `unsupported ED (hook)`, R135. -/
  | unsupportedEDA4 (op : Byte)
  /-- `unsupported ED (hook)`, R135. -/
  | unsupportedEDC0 (op : Byte)
  /-- `IN r,(C)`, R361. -/
  | inRPortC (r : Reg8)
  /-- `OUT (C),r`, R364. -/
  | outPortCR (r : Reg8)
  /-- `SBC HL,rp`, R282. -/
  | sbcHLRp (rp : RegPair)
  /-- `ADC HL,rp`, R281. -/
  | adcHLRp (rp : RegPair)
  /-- `LD (nn),rp`, R196. -/
  | ldIndNnRp (rp : RegPair) (nn : Word)
  /-- `LD rp,(nn)`, R193. -/
  | ldRpIndNn (rp : RegPair) (nn : Word)
  /-- `NEG`, R262. -/
  | neg (y : Oct)
  /-- `RETN`, R342. -/
  | retn (y : Oct)
  /-- `IM 0`, R268. -/
  | im0 (y : Oct)
  /-- `IM 1`, R269. -/
  | im1 (y : Oct)
  /-- `IM 2`, R270. -/
  | im2 (y : Oct)
  /-- `ED no-operation`, R272. -/
  | edNop (y : Oct)
  /-- `ADD IX,pp`, R283. -/
  | addIXPp (pp : IdxPair)
  /-- `LD IX,nn`, R191. -/
  | ldIXNn (nn : Word)
  /-- `LD (nn),IX`, R197. -/
  | ldIndNnIX (nn : Word)
  /-- `LD IX,(nn)`, R194. -/
  | ldIXIndNn (nn : Word)
  /-- `LD IXH,n`, R170. -/
  | ldIXHN (n : Byte)
  /-- `LD IXL,n`, R170. -/
  | ldIXLN (n : Byte)
  /-- `INC (IX+d)`, R247. -/
  | incIXd (d : Byte)
  /-- `DEC (IX+d)`, R250. -/
  | decIXd (d : Byte)
  /-- `LD (IX+d),n`, R168. -/
  | ldIXdN (d : Byte) (n : Byte)
  /-- `LD B,(IX+d)`, R166. -/
  | ldBIXd (d : Byte)
  /-- `LD C,(IX+d)`, R166. -/
  | ldCIXd (d : Byte)
  /-- `LD D,(IX+d)`, R166. -/
  | ldDIXd (d : Byte)
  /-- `LD E,(IX+d)`, R166. -/
  | ldEIXd (d : Byte)
  /-- `LD H,(IX+d)`, R166. -/
  | ldHIXd (d : Byte)
  /-- `LD L,(IX+d)`, R166. -/
  | ldLIXd (d : Byte)
  /-- `LD A,(IX+d)`, R166. -/
  | ldAIXd (d : Byte)
  /-- `LD (IX+d),B`, R167. -/
  | ldIXdB (d : Byte)
  /-- `LD (IX+d),C`, R167. -/
  | ldIXdC (d : Byte)
  /-- `LD (IX+d),D`, R167. -/
  | ldIXdD (d : Byte)
  /-- `LD (IX+d),E`, R167. -/
  | ldIXdE (d : Byte)
  /-- `LD (IX+d),H`, R167. -/
  | ldIXdH (d : Byte)
  /-- `LD (IX+d),L`, R167. -/
  | ldIXdL (d : Byte)
  /-- `LD (IX+d),A`, R167. -/
  | ldIXdA (d : Byte)
  /-- `ADD A,(IX+d)`, R237. -/
  | addAIXd (d : Byte)
  /-- `ADC A,(IX+d)`, R238. -/
  | adcAIXd (d : Byte)
  /-- `SUB (IX+d)`, R239. -/
  | subIXd (d : Byte)
  /-- `SBC A,(IX+d)`, R240. -/
  | sbcAIXd (d : Byte)
  /-- `AND (IX+d)`, R241. -/
  | andIXd (d : Byte)
  /-- `XOR (IX+d)`, R242. -/
  | xorIXd (d : Byte)
  /-- `OR (IX+d)`, R243. -/
  | orIXd (d : Byte)
  /-- `CP (IX+d)`, R244. -/
  | cpIXd (d : Byte)
  /-- `RLC (IX+d)`, R306. -/
  | rlcIXd (d : Byte)
  /-- `RLC (IX+d),r`, R306. -/
  | rlcIXdR (d : Byte) (r : Reg8)
  /-- `RRC (IX+d)`, R307. -/
  | rrcIXd (d : Byte)
  /-- `RRC (IX+d),r`, R307. -/
  | rrcIXdR (d : Byte) (r : Reg8)
  /-- `RL (IX+d)`, R308. -/
  | rlIXd (d : Byte)
  /-- `RL (IX+d),r`, R308. -/
  | rlIXdR (d : Byte) (r : Reg8)
  /-- `RR (IX+d)`, R309. -/
  | rrIXd (d : Byte)
  /-- `RR (IX+d),r`, R309. -/
  | rrIXdR (d : Byte) (r : Reg8)
  /-- `SLA (IX+d)`, R310. -/
  | slaIXd (d : Byte)
  /-- `SLA (IX+d),r`, R310. -/
  | slaIXdR (d : Byte) (r : Reg8)
  /-- `SRA (IX+d)`, R311. -/
  | sraIXd (d : Byte)
  /-- `SRA (IX+d),r`, R311. -/
  | sraIXdR (d : Byte) (r : Reg8)
  /-- `SLL (IX+d)`, R312. -/
  | sllIXd (d : Byte)
  /-- `SLL (IX+d),r`, R312. -/
  | sllIXdR (d : Byte) (r : Reg8)
  /-- `SRL (IX+d)`, R313. -/
  | srlIXd (d : Byte)
  /-- `SRL (IX+d),r`, R313. -/
  | srlIXdR (d : Byte) (r : Reg8)
  /-- `BIT b,(IX+d)`, R316. -/
  | bitBIXd (b : Oct) (d : Byte) (z : Oct)
  /-- `RES b,(IX+d)`, R317. -/
  | resBIXd (b : Oct) (d : Byte)
  /-- `RES b,(IX+d),r`, R317. -/
  | resBIXdR (b : Oct) (d : Byte) (r : Reg8)
  /-- `SET b,(IX+d)`, R318. -/
  | setBIXd (b : Oct) (d : Byte)
  /-- `SET b,(IX+d),r`, R318. -/
  | setBIXdR (b : Oct) (d : Byte) (r : Reg8)
  /-- `ADD IY,pp`, R283. -/
  | addIYPp (pp : IdxPair)
  /-- `LD IY,nn`, R191. -/
  | ldIYNn (nn : Word)
  /-- `LD (nn),IY`, R197. -/
  | ldIndNnIY (nn : Word)
  /-- `LD IY,(nn)`, R194. -/
  | ldIYIndNn (nn : Word)
  /-- `LD IYH,n`, R170. -/
  | ldIYHN (n : Byte)
  /-- `LD IYL,n`, R170. -/
  | ldIYLN (n : Byte)
  /-- `INC (IY+d)`, R247. -/
  | incIYd (d : Byte)
  /-- `DEC (IY+d)`, R250. -/
  | decIYd (d : Byte)
  /-- `LD (IY+d),n`, R168. -/
  | ldIYdN (d : Byte) (n : Byte)
  /-- `LD B,(IY+d)`, R166. -/
  | ldBIYd (d : Byte)
  /-- `LD C,(IY+d)`, R166. -/
  | ldCIYd (d : Byte)
  /-- `LD D,(IY+d)`, R166. -/
  | ldDIYd (d : Byte)
  /-- `LD E,(IY+d)`, R166. -/
  | ldEIYd (d : Byte)
  /-- `LD H,(IY+d)`, R166. -/
  | ldHIYd (d : Byte)
  /-- `LD L,(IY+d)`, R166. -/
  | ldLIYd (d : Byte)
  /-- `LD A,(IY+d)`, R166. -/
  | ldAIYd (d : Byte)
  /-- `LD (IY+d),B`, R167. -/
  | ldIYdB (d : Byte)
  /-- `LD (IY+d),C`, R167. -/
  | ldIYdC (d : Byte)
  /-- `LD (IY+d),D`, R167. -/
  | ldIYdD (d : Byte)
  /-- `LD (IY+d),E`, R167. -/
  | ldIYdE (d : Byte)
  /-- `LD (IY+d),H`, R167. -/
  | ldIYdH (d : Byte)
  /-- `LD (IY+d),L`, R167. -/
  | ldIYdL (d : Byte)
  /-- `LD (IY+d),A`, R167. -/
  | ldIYdA (d : Byte)
  /-- `ADD A,(IY+d)`, R237. -/
  | addAIYd (d : Byte)
  /-- `ADC A,(IY+d)`, R238. -/
  | adcAIYd (d : Byte)
  /-- `SUB (IY+d)`, R239. -/
  | subIYd (d : Byte)
  /-- `SBC A,(IY+d)`, R240. -/
  | sbcAIYd (d : Byte)
  /-- `AND (IY+d)`, R241. -/
  | andIYd (d : Byte)
  /-- `XOR (IY+d)`, R242. -/
  | xorIYd (d : Byte)
  /-- `OR (IY+d)`, R243. -/
  | orIYd (d : Byte)
  /-- `CP (IY+d)`, R244. -/
  | cpIYd (d : Byte)
  /-- `RLC (IY+d)`, R306. -/
  | rlcIYd (d : Byte)
  /-- `RLC (IY+d),r`, R306. -/
  | rlcIYdR (d : Byte) (r : Reg8)
  /-- `RRC (IY+d)`, R307. -/
  | rrcIYd (d : Byte)
  /-- `RRC (IY+d),r`, R307. -/
  | rrcIYdR (d : Byte) (r : Reg8)
  /-- `RL (IY+d)`, R308. -/
  | rlIYd (d : Byte)
  /-- `RL (IY+d),r`, R308. -/
  | rlIYdR (d : Byte) (r : Reg8)
  /-- `RR (IY+d)`, R309. -/
  | rrIYd (d : Byte)
  /-- `RR (IY+d),r`, R309. -/
  | rrIYdR (d : Byte) (r : Reg8)
  /-- `SLA (IY+d)`, R310. -/
  | slaIYd (d : Byte)
  /-- `SLA (IY+d),r`, R310. -/
  | slaIYdR (d : Byte) (r : Reg8)
  /-- `SRA (IY+d)`, R311. -/
  | sraIYd (d : Byte)
  /-- `SRA (IY+d),r`, R311. -/
  | sraIYdR (d : Byte) (r : Reg8)
  /-- `SLL (IY+d)`, R312. -/
  | sllIYd (d : Byte)
  /-- `SLL (IY+d),r`, R312. -/
  | sllIYdR (d : Byte) (r : Reg8)
  /-- `SRL (IY+d)`, R313. -/
  | srlIYd (d : Byte)
  /-- `SRL (IY+d),r`, R313. -/
  | srlIYdR (d : Byte) (r : Reg8)
  /-- `BIT b,(IY+d)`, R316. -/
  | bitBIYd (b : Oct) (d : Byte) (z : Oct)
  /-- `RES b,(IY+d)`, R317. -/
  | resBIYd (b : Oct) (d : Byte)
  /-- `RES b,(IY+d),r`, R317. -/
  | resBIYdR (b : Oct) (d : Byte) (r : Reg8)
  /-- `SET b,(IY+d)`, R318. -/
  | setBIYd (b : Oct) (d : Byte)
  /-- `SET b,(IY+d),r`, R318. -/
  | setBIYdR (b : Oct) (d : Byte) (r : Reg8)
  /-- `NOP`, R271. -/
  | nop
  /-- `EX AF,AF'`, R211. -/
  | exAFAF
  /-- `LD (BC),A`, R178. -/
  | ldIndBCA
  /-- `LD (DE),A`, R179. -/
  | ldIndDEA
  /-- `LD A,(BC)`, R171. -/
  | ldAIndBC
  /-- `LD A,(DE)`, R172. -/
  | ldAIndDE
  /-- `INC (HL)`, R246. -/
  | incIndHL
  /-- `DEC (HL)`, R249. -/
  | decIndHL
  /-- `RLCA`, R300. -/
  | rlca
  /-- `RRCA`, R301. -/
  | rrca
  /-- `RLA`, R302. -/
  | rla
  /-- `RRA`, R303. -/
  | rra
  /-- `DAA`, R260. -/
  | daa
  /-- `CPL`, R261. -/
  | cpl
  /-- `SCF`, R264. -/
  | scf
  /-- `CCF`, R263. -/
  | ccf
  /-- `HALT`, R265. -/
  | halt
  /-- `ADD A,(HL)`, R237. -/
  | addAIndHL
  /-- `ADC A,(HL)`, R238. -/
  | adcAIndHL
  /-- `SUB (HL)`, R239. -/
  | subIndHL
  /-- `SBC A,(HL)`, R240. -/
  | sbcAIndHL
  /-- `AND (HL)`, R241. -/
  | andIndHL
  /-- `XOR (HL)`, R242. -/
  | xorIndHL
  /-- `OR (HL)`, R243. -/
  | orIndHL
  /-- `CP (HL)`, R244. -/
  | cpIndHL
  /-- `RET`, R339. -/
  | ret
  /-- `EXX`, R212. -/
  | exx
  /-- `JP (HL)`, R335. -/
  | jpHL
  /-- `LD SP,HL`, R202. -/
  | ldSPHL
  /-- `EX (SP),HL`, R213. -/
  | exIndSPHL
  /-- `EX DE,HL`, R210. -/
  | exDEHL
  /-- `DI`, R266. -/
  | di
  /-- `EI`, R267. -/
  | ei
  /-- `RLC (HL)`, R306. -/
  | rlcIndHL
  /-- `RRC (HL)`, R307. -/
  | rrcIndHL
  /-- `RL (HL)`, R308. -/
  | rlIndHL
  /-- `RR (HL)`, R309. -/
  | rrIndHL
  /-- `SLA (HL)`, R310. -/
  | slaIndHL
  /-- `SRA (HL)`, R311. -/
  | sraIndHL
  /-- `SLL (HL)`, R312. -/
  | sllIndHL
  /-- `SRL (HL)`, R313. -/
  | srlIndHL
  /-- `LDI`, R216. -/
  | ldi
  /-- `CPI`, R220. -/
  | cpi
  /-- `INI`, R367. -/
  | ini
  /-- `OUTI`, R371. -/
  | outi
  /-- `LDD`, R217. -/
  | ldd
  /-- `CPD`, R221. -/
  | cpd
  /-- `IND`, R368. -/
  | ind
  /-- `OUTD`, R372. -/
  | outd
  /-- `LDIR`, R218. -/
  | ldir
  /-- `CPIR`, R222. -/
  | cpir
  /-- `INIR`, R369. -/
  | inir
  /-- `OTIR`, R373. -/
  | otir
  /-- `LDDR`, R219. -/
  | lddr
  /-- `CPDR`, R223. -/
  | cpdr
  /-- `INDR`, R370. -/
  | indr
  /-- `OTDR`, R374. -/
  | otdr
  /-- `IN F,(C)`, R362. -/
  | inFPortC
  /-- `OUT (C),0`, R365. -/
  | outPortC0
  /-- `RETI`, R341. -/
  | reti
  /-- `LD I,A`, R176. -/
  | ldIA
  /-- `LD R,A`, R177. -/
  | ldRA
  /-- `LD A,I`, R174. -/
  | ldAI
  /-- `LD A,R`, R175. -/
  | ldAR
  /-- `RRD`, R320. -/
  | rrd
  /-- `RLD`, R319. -/
  | rld
  /-- `INC IX`, R286. -/
  | incIX
  /-- `DEC IX`, R287. -/
  | decIX
  /-- `INC IXH`, R245. -/
  | incIXH
  /-- `INC IXL`, R245. -/
  | incIXL
  /-- `DEC IXH`, R248. -/
  | decIXH
  /-- `DEC IXL`, R248. -/
  | decIXL
  /-- `LD B,IXH`, R169. -/
  | ldBIXH
  /-- `LD B,IXL`, R169. -/
  | ldBIXL
  /-- `LD C,IXH`, R169. -/
  | ldCIXH
  /-- `LD C,IXL`, R169. -/
  | ldCIXL
  /-- `LD D,IXH`, R169. -/
  | ldDIXH
  /-- `LD D,IXL`, R169. -/
  | ldDIXL
  /-- `LD E,IXH`, R169. -/
  | ldEIXH
  /-- `LD E,IXL`, R169. -/
  | ldEIXL
  /-- `LD IXH,B`, R169. -/
  | ldIXHB
  /-- `LD IXH,C`, R169. -/
  | ldIXHC
  /-- `LD IXH,D`, R169. -/
  | ldIXHD
  /-- `LD IXH,E`, R169. -/
  | ldIXHE
  /-- `LD IXH,IXH`, R169. -/
  | ldIXHIXH
  /-- `LD IXH,IXL`, R169. -/
  | ldIXHIXL
  /-- `LD IXH,A`, R169. -/
  | ldIXHA
  /-- `LD IXL,B`, R169. -/
  | ldIXLB
  /-- `LD IXL,C`, R169. -/
  | ldIXLC
  /-- `LD IXL,D`, R169. -/
  | ldIXLD
  /-- `LD IXL,E`, R169. -/
  | ldIXLE
  /-- `LD IXL,IXH`, R169. -/
  | ldIXLIXH
  /-- `LD IXL,IXL`, R169. -/
  | ldIXLIXL
  /-- `LD IXL,A`, R169. -/
  | ldIXLA
  /-- `LD A,IXH`, R169. -/
  | ldAIXH
  /-- `LD A,IXL`, R169. -/
  | ldAIXL
  /-- `ADD A,IXH`, R237. -/
  | addAIXH
  /-- `ADD A,IXL`, R237. -/
  | addAIXL
  /-- `ADC A,IXH`, R238. -/
  | adcAIXH
  /-- `ADC A,IXL`, R238. -/
  | adcAIXL
  /-- `SUB IXH`, R239. -/
  | subIXH
  /-- `SUB IXL`, R239. -/
  | subIXL
  /-- `SBC A,IXH`, R240. -/
  | sbcAIXH
  /-- `SBC A,IXL`, R240. -/
  | sbcAIXL
  /-- `AND IXH`, R241. -/
  | andIXH
  /-- `AND IXL`, R241. -/
  | andIXL
  /-- `XOR IXH`, R242. -/
  | xorIXH
  /-- `XOR IXL`, R242. -/
  | xorIXL
  /-- `OR IXH`, R243. -/
  | orIXH
  /-- `OR IXL`, R243. -/
  | orIXL
  /-- `CP IXH`, R244. -/
  | cpIXH
  /-- `CP IXL`, R244. -/
  | cpIXL
  /-- `POP IX`, R201. -/
  | popIX
  /-- `EX (SP),IX`, R214. -/
  | exIndSPIX
  /-- `PUSH IX`, R200. -/
  | pushIX
  /-- `JP (IX)`, R336. -/
  | jpIX
  /-- `LD SP,IX`, R203. -/
  | ldSPIX
  /-- `wasted DD prefix`, R139. -/
  | wastedDD
  /-- `INC IY`, R286. -/
  | incIY
  /-- `DEC IY`, R287. -/
  | decIY
  /-- `INC IYH`, R245. -/
  | incIYH
  /-- `INC IYL`, R245. -/
  | incIYL
  /-- `DEC IYH`, R248. -/
  | decIYH
  /-- `DEC IYL`, R248. -/
  | decIYL
  /-- `LD B,IYH`, R169. -/
  | ldBIYH
  /-- `LD B,IYL`, R169. -/
  | ldBIYL
  /-- `LD C,IYH`, R169. -/
  | ldCIYH
  /-- `LD C,IYL`, R169. -/
  | ldCIYL
  /-- `LD D,IYH`, R169. -/
  | ldDIYH
  /-- `LD D,IYL`, R169. -/
  | ldDIYL
  /-- `LD E,IYH`, R169. -/
  | ldEIYH
  /-- `LD E,IYL`, R169. -/
  | ldEIYL
  /-- `LD IYH,B`, R169. -/
  | ldIYHB
  /-- `LD IYH,C`, R169. -/
  | ldIYHC
  /-- `LD IYH,D`, R169. -/
  | ldIYHD
  /-- `LD IYH,E`, R169. -/
  | ldIYHE
  /-- `LD IYH,IYH`, R169. -/
  | ldIYHIYH
  /-- `LD IYH,IYL`, R169. -/
  | ldIYHIYL
  /-- `LD IYH,A`, R169. -/
  | ldIYHA
  /-- `LD IYL,B`, R169. -/
  | ldIYLB
  /-- `LD IYL,C`, R169. -/
  | ldIYLC
  /-- `LD IYL,D`, R169. -/
  | ldIYLD
  /-- `LD IYL,E`, R169. -/
  | ldIYLE
  /-- `LD IYL,IYH`, R169. -/
  | ldIYLIYH
  /-- `LD IYL,IYL`, R169. -/
  | ldIYLIYL
  /-- `LD IYL,A`, R169. -/
  | ldIYLA
  /-- `LD A,IYH`, R169. -/
  | ldAIYH
  /-- `LD A,IYL`, R169. -/
  | ldAIYL
  /-- `ADD A,IYH`, R237. -/
  | addAIYH
  /-- `ADD A,IYL`, R237. -/
  | addAIYL
  /-- `ADC A,IYH`, R238. -/
  | adcAIYH
  /-- `ADC A,IYL`, R238. -/
  | adcAIYL
  /-- `SUB IYH`, R239. -/
  | subIYH
  /-- `SUB IYL`, R239. -/
  | subIYL
  /-- `SBC A,IYH`, R240. -/
  | sbcAIYH
  /-- `SBC A,IYL`, R240. -/
  | sbcAIYL
  /-- `AND IYH`, R241. -/
  | andIYH
  /-- `AND IYL`, R241. -/
  | andIYL
  /-- `XOR IYH`, R242. -/
  | xorIYH
  /-- `XOR IYL`, R242. -/
  | xorIYL
  /-- `OR IYH`, R243. -/
  | orIYH
  /-- `OR IYL`, R243. -/
  | orIYL
  /-- `CP IYH`, R244. -/
  | cpIYH
  /-- `CP IYL`, R244. -/
  | cpIYL
  /-- `POP IY`, R201. -/
  | popIY
  /-- `EX (SP),IY`, R214. -/
  | exIndSPIY
  /-- `PUSH IY`, R200. -/
  | pushIY
  /-- `JP (IY)`, R336. -/
  | jpIY
  /-- `LD SP,IY`, R203. -/
  | ldSPIY
  /-- `wasted FD prefix`, R139. -/
  | wastedFD
  deriving DecidableEq, Repr

end Sys2Proof
end

