-- ==== Sys2Proof/WellFormed.lean ====
section
/-! DEFINITION. Which terms of `Instr` are instructions of the hardware: the code bits that a row of spec/opcode_table.json leaves partly free must lie in that row (its match and mask, or its `source_fields`). Every other operand is tight in its type. -/

namespace Sys2Proof

/-- The checks on an instruction. Rows that share a code space: RETN excludes the RETI code (R120), the IM rows split the codes of R108, the
ED no-operations are y = 6 and 7 (R272), and the four hook rows split the unsupported bytes (R134). -/
def Instr.wf (i : Instr) : Bool :=
  match i with
  | .unsupportedED00 op => (op &&& 0xC0) == 0x00
  | .unsupportedED80 op => (op &&& 0xE0) == 0x80
  | .unsupportedEDA4 op => (op &&& 0xE4) == 0xA4
  | .unsupportedEDC0 op => (op &&& 0xC0) == 0xC0
  | .retn y => y != .o1
  | .im0 y => y == .o0 || y == .o1 || y == .o4 || y == .o5
  | .im1 y => y == .o2 || y == .o6
  | .im2 y => y == .o3 || y == .o7
  | .edNop y => y == .o6 || y == .o7
  | .nop | .exAFAF | .djnz _ | .jr _ | .jrCc _ _ | .ldRpNn _ _ | .addHLRp _ | .ldIndBCA | .ldIndDEA | .ldIndNnHL _ | .ldIndNnA _
  | .ldAIndBC | .ldAIndDE | .ldHLIndNn _ | .ldAIndNn _ | .incRp _ | .decRp _ | .incIndHL | .incR _ | .decIndHL | .decR _
  | .ldIndHLN _ | .ldRN _ _ | .rlca | .rrca | .rla | .rra | .daa | .cpl | .scf | .ccf | .halt | .ldRIndHL _ | .ldIndHLR _
  | .ldRR _ _ | .addAIndHL | .addAR _ | .adcAIndHL | .adcAR _ | .subIndHL | .subR _ | .sbcAIndHL | .sbcAR _ | .andIndHL | .andR _
  | .xorIndHL | .xorR _ | .orIndHL | .orR _ | .cpIndHL | .cpR _ | .retCc _ | .popQq _ | .ret | .exx | .jpHL | .ldSPHL | .jpCcNn _ _
  | .jpNn _ | .outPortNA _ | .inAPortN _ | .exIndSPHL | .exDEHL | .di | .ei | .callCcNn _ _ | .pushQq _ | .callNn _ | .addAN _
  | .adcAN _ | .subN _ | .sbcAN _ | .andN _ | .xorN _ | .orN _ | .cpN _ | .rst _ | .rlcIndHL | .rlcR _ | .rrcIndHL | .rrcR _
  | .rlIndHL | .rlR _ | .rrIndHL | .rrR _ | .slaIndHL | .slaR _ | .sraIndHL | .sraR _ | .sllIndHL | .sllR _ | .srlIndHL | .srlR _
  | .bitBIndHL _ | .bitBR _ _ | .resBIndHL _ | .resBR _ _ | .setBIndHL _ | .setBR _ _ | .ldi | .cpi | .ini | .outi | .ldd | .cpd
  | .ind | .outd | .ldir | .cpir | .inir | .otir | .lddr | .cpdr | .indr | .otdr | .inFPortC | .inRPortC _ | .outPortC0
  | .outPortCR _ | .sbcHLRp _ | .adcHLRp _ | .ldIndNnRp _ _ | .ldRpIndNn _ _ | .neg _ | .reti | .ldIA | .ldRA | .ldAI | .ldAR | .rrd
  | .rld | .addIXPp _ | .ldIXNn _ | .ldIndNnIX _ | .ldIXIndNn _ | .incIX | .decIX | .incIXH | .incIXL | .decIXH | .decIXL
  | .ldIXHN _ | .ldIXLN _ | .incIXd _ | .decIXd _ | .ldIXdN _ _ | .ldBIXd _ | .ldCIXd _ | .ldDIXd _ | .ldEIXd _ | .ldHIXd _
  | .ldLIXd _ | .ldAIXd _ | .ldIXdB _ | .ldIXdC _ | .ldIXdD _ | .ldIXdE _ | .ldIXdH _ | .ldIXdL _ | .ldIXdA _ | .ldBIXH | .ldBIXL
  | .ldCIXH | .ldCIXL | .ldDIXH | .ldDIXL | .ldEIXH | .ldEIXL | .ldIXHB | .ldIXHC | .ldIXHD | .ldIXHE | .ldIXHIXH | .ldIXHIXL
  | .ldIXHA | .ldIXLB | .ldIXLC | .ldIXLD | .ldIXLE | .ldIXLIXH | .ldIXLIXL | .ldIXLA | .ldAIXH | .ldAIXL | .addAIXH | .addAIXL
  | .addAIXd _ | .adcAIXH | .adcAIXL | .adcAIXd _ | .subIXH | .subIXL | .subIXd _ | .sbcAIXH | .sbcAIXL | .sbcAIXd _ | .andIXH
  | .andIXL | .andIXd _ | .xorIXH | .xorIXL | .xorIXd _ | .orIXH | .orIXL | .orIXd _ | .cpIXH | .cpIXL | .cpIXd _ | .popIX
  | .exIndSPIX | .pushIX | .jpIX | .ldSPIX | .rlcIXd _ | .rlcIXdR _ _ | .rrcIXd _ | .rrcIXdR _ _ | .rlIXd _ | .rlIXdR _ _ | .rrIXd _
  | .rrIXdR _ _ | .slaIXd _ | .slaIXdR _ _ | .sraIXd _ | .sraIXdR _ _ | .sllIXd _ | .sllIXdR _ _ | .srlIXd _ | .srlIXdR _ _
  | .bitBIXd _ _ _ | .resBIXd _ _ | .resBIXdR _ _ _ | .setBIXd _ _ | .setBIXdR _ _ _ | .wastedDD | .addIYPp _ | .ldIYNn _
  | .ldIndNnIY _ | .ldIYIndNn _ | .incIY | .decIY | .incIYH | .incIYL | .decIYH | .decIYL | .ldIYHN _ | .ldIYLN _ | .incIYd _
  | .decIYd _ | .ldIYdN _ _ | .ldBIYd _ | .ldCIYd _ | .ldDIYd _ | .ldEIYd _ | .ldHIYd _ | .ldLIYd _ | .ldAIYd _ | .ldIYdB _
  | .ldIYdC _ | .ldIYdD _ | .ldIYdE _ | .ldIYdH _ | .ldIYdL _ | .ldIYdA _ | .ldBIYH | .ldBIYL | .ldCIYH | .ldCIYL | .ldDIYH
  | .ldDIYL | .ldEIYH | .ldEIYL | .ldIYHB | .ldIYHC | .ldIYHD | .ldIYHE | .ldIYHIYH | .ldIYHIYL | .ldIYHA | .ldIYLB | .ldIYLC
  | .ldIYLD | .ldIYLE | .ldIYLIYH | .ldIYLIYL | .ldIYLA | .ldAIYH | .ldAIYL | .addAIYH | .addAIYL | .addAIYd _ | .adcAIYH | .adcAIYL
  | .adcAIYd _ | .subIYH | .subIYL | .subIYd _ | .sbcAIYH | .sbcAIYL | .sbcAIYd _ | .andIYH | .andIYL | .andIYd _ | .xorIYH
  | .xorIYL | .xorIYd _ | .orIYH | .orIYL | .orIYd _ | .cpIYH | .cpIYL | .cpIYd _ | .popIY | .exIndSPIY | .pushIY | .jpIY | .ldSPIY
  | .rlcIYd _ | .rlcIYdR _ _ | .rrcIYd _ | .rrcIYdR _ _ | .rlIYd _ | .rlIYdR _ _ | .rrIYd _ | .rrIYdR _ _ | .slaIYd _ | .slaIYdR _ _
  | .sraIYd _ | .sraIYdR _ _ | .sllIYd _ | .sllIYdR _ _ | .srlIYd _ | .srlIYdR _ _ | .bitBIYd _ _ _ | .resBIYd _ _ | .resBIYdR _ _ _
  | .setBIYd _ _ | .setBIYdR _ _ _ | .wastedFD => true

end Sys2Proof
end

