-- ==== Sys2Proof/Decode.lean ====
section
/-! DEFINITION. The decoder, total on any four bytes (spec/40_dispatch.md R131-R141, spec/30_encoding.md R118-R122), its form on byte lists, which rejects by name, and after it the encoder from the opcode table (R101-R110, R123). -/

namespace Sys2Proof

/-! ## Fields -/

/-- A 2-bit code: the field `x` of an opcode byte (R101). -/
inductive Quad where
  | q0 | q1 | q2 | q3
  deriving DecidableEq, Repr

/-- A 3-bit code from its bits, the highest first. -/
def Oct.ofBits (b2 b1 b0 : Bool) : Oct :=
  match b2, b1, b0 with
  | false, false, false => .o0
  | false, false, true => .o1
  | false, true, false => .o2
  | false, true, true => .o3
  | true, false, false => .o4
  | true, false, true => .o5
  | true, true, false => .o6
  | true, true, true => .o7

/-- `x = b[7:6]` (R101). -/
def fieldX (b : Byte) : Quad :=
  match b.getLsbD 7, b.getLsbD 6 with
  | false, false => .q0
  | false, true => .q1
  | true, false => .q2
  | true, true => .q3

/-- `y = b[5:3]` (R101). -/
def fieldY (b : Byte) : Oct := Oct.ofBits (b.getLsbD 5) (b.getLsbD 4) (b.getLsbD 3)

/-- `z = b[2:0]` (R101). -/
def fieldZ (b : Byte) : Oct := Oct.ofBits (b.getLsbD 2) (b.getLsbD 1) (b.getLsbD 0)

/-- The register of a code r (R102); code 6 names none. -/
def Reg8.ofCode (k : Oct) : Option Reg8 :=
  match k with
  | .o0 => some .b
  | .o1 => some .c
  | .o2 => some .d
  | .o3 => some .e
  | .o4 => some .h
  | .o5 => some .l
  | .o6 => none
  | .o7 => some .a

/-- The condition of a code cc (R105). -/
def Cond.ofCode (k : Oct) : Cond :=
  match k with
  | .o0 => .nz
  | .o1 => .z
  | .o2 => .nc
  | .o3 => .c
  | .o4 => .po
  | .o5 => .pe
  | .o6 => .p
  | .o7 => .m

/-- An immediate nn from its two bytes, the low byte first (R112). -/
def nnOf (lo hi : Byte) : Word := hi ++ lo

/-! ## The tables -/

/-- The main table (R118) but for the bytes CB, DD, ED and FD, which R131 routes elsewhere: on them it answers `none`. -/
def decodeMain (b0 b1 b2 : Byte) : Option Instr :=
  let y := fieldY b0
  let z := fieldZ b0
  let nn := nnOf b1 b2
  match fieldX b0 with
  | .q0 =>
    match z with
    | .o0 =>
      match y with
      | .o0 => some .nop
      | .o1 => some .exAFAF
      | .o2 => some (.djnz b1)
      | .o3 => some (.jr b1)
      | .o4 => some (.jrCc .nz b1)
      | .o5 => some (.jrCc .z b1)
      | .o6 => some (.jrCc .nc b1)
      | .o7 => some (.jrCc .c b1)
    | .o1 =>
      match y with
      | .o0 => some (.ldRpNn .bc nn)
      | .o1 => some (.addHLRp .bc)
      | .o2 => some (.ldRpNn .de nn)
      | .o3 => some (.addHLRp .de)
      | .o4 => some (.ldRpNn .hl nn)
      | .o5 => some (.addHLRp .hl)
      | .o6 => some (.ldRpNn .sp nn)
      | .o7 => some (.addHLRp .sp)
    | .o2 =>
      match y with
      | .o0 => some .ldIndBCA
      | .o1 => some .ldAIndBC
      | .o2 => some .ldIndDEA
      | .o3 => some .ldAIndDE
      | .o4 => some (.ldIndNnHL nn)
      | .o5 => some (.ldHLIndNn nn)
      | .o6 => some (.ldIndNnA nn)
      | .o7 => some (.ldAIndNn nn)
    | .o3 =>
      match y with
      | .o0 => some (.incRp .bc)
      | .o1 => some (.decRp .bc)
      | .o2 => some (.incRp .de)
      | .o3 => some (.decRp .de)
      | .o4 => some (.incRp .hl)
      | .o5 => some (.decRp .hl)
      | .o6 => some (.incRp .sp)
      | .o7 => some (.decRp .sp)
    | .o4 =>
      match Reg8.ofCode y with
      | some r => some (.incR r)
      | none => some .incIndHL
    | .o5 =>
      match Reg8.ofCode y with
      | some r => some (.decR r)
      | none => some .decIndHL
    | .o6 =>
      match Reg8.ofCode y with
      | some r => some (.ldRN r b1)
      | none => some (.ldIndHLN b1)
    | .o7 =>
      match y with
      | .o0 => some .rlca
      | .o1 => some .rrca
      | .o2 => some .rla
      | .o3 => some .rra
      | .o4 => some .daa
      | .o5 => some .cpl
      | .o6 => some .scf
      | .o7 => some .ccf
  | .q1 =>
    match Reg8.ofCode y, Reg8.ofCode z with
    | some r, some r' => some (.ldRR r r')
    | some r, none => some (.ldRIndHL r)
    | none, some r => some (.ldIndHLR r)
    | none, none => some .halt
  | .q2 =>
    match y, Reg8.ofCode z with
    | .o0, some r => some (.addAR r)
    | .o0, none => some .addAIndHL
    | .o1, some r => some (.adcAR r)
    | .o1, none => some .adcAIndHL
    | .o2, some r => some (.subR r)
    | .o2, none => some .subIndHL
    | .o3, some r => some (.sbcAR r)
    | .o3, none => some .sbcAIndHL
    | .o4, some r => some (.andR r)
    | .o4, none => some .andIndHL
    | .o5, some r => some (.xorR r)
    | .o5, none => some .xorIndHL
    | .o6, some r => some (.orR r)
    | .o6, none => some .orIndHL
    | .o7, some r => some (.cpR r)
    | .o7, none => some .cpIndHL
  | .q3 =>
    match z with
    | .o0 => some (.retCc (Cond.ofCode y))
    | .o1 =>
      match y with
      | .o0 => some (.popQq .bc)
      | .o1 => some .ret
      | .o2 => some (.popQq .de)
      | .o3 => some .exx
      | .o4 => some (.popQq .hl)
      | .o5 => some .jpHL
      | .o6 => some (.popQq .af)
      | .o7 => some .ldSPHL
    | .o2 => some (.jpCcNn (Cond.ofCode y) nn)
    | .o3 =>
      match y with
      | .o0 => some (.jpNn nn)
      | .o1 => none
      | .o2 => some (.outPortNA b1)
      | .o3 => some (.inAPortN b1)
      | .o4 => some .exIndSPHL
      | .o5 => some .exDEHL
      | .o6 => some .di
      | .o7 => some .ei
    | .o4 => some (.callCcNn (Cond.ofCode y) nn)
    | .o5 =>
      match y with
      | .o0 => some (.pushQq .bc)
      | .o1 => some (.callNn nn)
      | .o2 => some (.pushQq .de)
      | .o3 => none
      | .o4 => some (.pushQq .hl)
      | .o5 => none
      | .o6 => some (.pushQq .af)
      | .o7 => none
    | .o6 =>
      match y with
      | .o0 => some (.addAN b1)
      | .o1 => some (.adcAN b1)
      | .o2 => some (.subN b1)
      | .o3 => some (.sbcAN b1)
      | .o4 => some (.andN b1)
      | .o5 => some (.xorN b1)
      | .o6 => some (.orN b1)
      | .o7 => some (.cpN b1)
    | .o7 => some (.rst y)

/-- The CB table (R119): every one of the 256 entries is defined. -/
def decodeCB (op : Byte) : Instr :=
  let y := fieldY op
  match fieldX op, Reg8.ofCode (fieldZ op) with
  | .q0, some r =>
    match y with
    | .o0 => .rlcR r
    | .o1 => .rrcR r
    | .o2 => .rlR r
    | .o3 => .rrR r
    | .o4 => .slaR r
    | .o5 => .sraR r
    | .o6 => .sllR r
    | .o7 => .srlR r
  | .q0, none =>
    match y with
    | .o0 => .rlcIndHL
    | .o1 => .rrcIndHL
    | .o2 => .rlIndHL
    | .o3 => .rrIndHL
    | .o4 => .slaIndHL
    | .o5 => .sraIndHL
    | .o6 => .sllIndHL
    | .o7 => .srlIndHL
  | .q1, some r => .bitBR y r
  | .q1, none => .bitBIndHL y
  | .q2, some r => .resBR y r
  | .q2, none => .resBIndHL y
  | .q3, some r => .setBR y r
  | .q3, none => .setBIndHL y

/-- The ED table and its classification (R120, R134, R109): unsupported, block, plain. -/
def decodeED (op b2 b3 : Byte) : Instr :=
  let y := fieldY op
  let nn := nnOf b2 b3
  match fieldX op with
  | .q0 => .unsupportedED00 op
  | .q3 => .unsupportedEDC0 op
  | .q2 =>
    match y, fieldZ op with
    | .o4, .o0 => .ldi
    | .o4, .o1 => .cpi
    | .o4, .o2 => .ini
    | .o4, .o3 => .outi
    | .o5, .o0 => .ldd
    | .o5, .o1 => .cpd
    | .o5, .o2 => .ind
    | .o5, .o3 => .outd
    | .o6, .o0 => .ldir
    | .o6, .o1 => .cpir
    | .o6, .o2 => .inir
    | .o6, .o3 => .otir
    | .o7, .o0 => .lddr
    | .o7, .o1 => .cpdr
    | .o7, .o2 => .indr
    | .o7, .o3 => .otdr
    | .o0, _ | .o1, _ | .o2, _ | .o3, _ => .unsupportedED80 op
    | _, _ => .unsupportedEDA4 op
  | .q1 =>
    match fieldZ op with
    | .o0 =>
      match Reg8.ofCode y with
      | some r => .inRPortC r
      | none => .inFPortC
    | .o1 =>
      match Reg8.ofCode y with
      | some r => .outPortCR r
      | none => .outPortC0
    | .o2 =>
      match y with
      | .o0 => .sbcHLRp .bc
      | .o1 => .adcHLRp .bc
      | .o2 => .sbcHLRp .de
      | .o3 => .adcHLRp .de
      | .o4 => .sbcHLRp .hl
      | .o5 => .adcHLRp .hl
      | .o6 => .sbcHLRp .sp
      | .o7 => .adcHLRp .sp
    | .o3 =>
      match y with
      | .o0 => .ldIndNnRp .bc nn
      | .o1 => .ldRpIndNn .bc nn
      | .o2 => .ldIndNnRp .de nn
      | .o3 => .ldRpIndNn .de nn
      | .o4 => .ldIndNnRp .hl nn
      | .o5 => .ldRpIndNn .hl nn
      | .o6 => .ldIndNnRp .sp nn
      | .o7 => .ldRpIndNn .sp nn
    | .o4 => .neg y
    | .o5 =>
      match y with
      | .o1 => .reti
      | .o0 | .o2 | .o3 | .o4 | .o5 | .o6 | .o7 => .retn y
    | .o6 =>
      match y with
      | .o0 | .o1 | .o4 | .o5 => .im0 y
      | .o2 | .o6 => .im1 y
      | .o3 | .o7 => .im2 y
    | .o7 =>
      match y with
      | .o0 => .ldIA
      | .o1 => .ldRA
      | .o2 => .ldAI
      | .o3 => .ldAR
      | .o4 => .rrd
      | .o5 => .rld
      | .o6 | .o7 => .edNop y

/-- The recognised bytes after DD (R121, R138), by the fields of the byte; `none` is a byte outside the set. -/
def decodeDD (op b2 b3 : Byte) : Option Instr :=
  let nn := nnOf b2 b3
  match fieldX op with
  | .q0 =>
    match fieldZ op, fieldY op with
    | .o1, .o1 => some (.addIXPp .bc)
    | .o1, .o3 => some (.addIXPp .de)
    | .o1, .o4 => some (.ldIXNn nn)
    | .o1, .o5 => some (.addIXPp .xy)
    | .o1, .o7 => some (.addIXPp .sp)
    | .o2, .o4 => some (.ldIndNnIX nn)
    | .o2, .o5 => some (.ldIXIndNn nn)
    | .o3, .o4 => some .incIX
    | .o3, .o5 => some .decIX
    | .o4, .o4 => some .incIXH
    | .o4, .o5 => some .incIXL
    | .o4, .o6 => some (.incIXd b2)
    | .o5, .o4 => some .decIXH
    | .o5, .o5 => some .decIXL
    | .o5, .o6 => some (.decIXd b2)
    | .o6, .o4 => some (.ldIXHN b2)
    | .o6, .o5 => some (.ldIXLN b2)
    | .o6, .o6 => some (.ldIXdN b2 b3)
    | _, _ => none
  | .q1 =>
    match fieldY op, fieldZ op with
    | .o0, .o4 => some .ldBIXH
    | .o0, .o5 => some .ldBIXL
    | .o0, .o6 => some (.ldBIXd b2)
    | .o1, .o4 => some .ldCIXH
    | .o1, .o5 => some .ldCIXL
    | .o1, .o6 => some (.ldCIXd b2)
    | .o2, .o4 => some .ldDIXH
    | .o2, .o5 => some .ldDIXL
    | .o2, .o6 => some (.ldDIXd b2)
    | .o3, .o4 => some .ldEIXH
    | .o3, .o5 => some .ldEIXL
    | .o3, .o6 => some (.ldEIXd b2)
    | .o4, .o0 => some .ldIXHB
    | .o4, .o1 => some .ldIXHC
    | .o4, .o2 => some .ldIXHD
    | .o4, .o3 => some .ldIXHE
    | .o4, .o4 => some .ldIXHIXH
    | .o4, .o5 => some .ldIXHIXL
    | .o4, .o6 => some (.ldHIXd b2)
    | .o4, .o7 => some .ldIXHA
    | .o5, .o0 => some .ldIXLB
    | .o5, .o1 => some .ldIXLC
    | .o5, .o2 => some .ldIXLD
    | .o5, .o3 => some .ldIXLE
    | .o5, .o4 => some .ldIXLIXH
    | .o5, .o5 => some .ldIXLIXL
    | .o5, .o6 => some (.ldLIXd b2)
    | .o5, .o7 => some .ldIXLA
    | .o6, .o0 => some (.ldIXdB b2)
    | .o6, .o1 => some (.ldIXdC b2)
    | .o6, .o2 => some (.ldIXdD b2)
    | .o6, .o3 => some (.ldIXdE b2)
    | .o6, .o4 => some (.ldIXdH b2)
    | .o6, .o5 => some (.ldIXdL b2)
    | .o6, .o7 => some (.ldIXdA b2)
    | .o7, .o4 => some .ldAIXH
    | .o7, .o5 => some .ldAIXL
    | .o7, .o6 => some (.ldAIXd b2)
    | _, _ => none
  | .q2 =>
    match fieldY op, fieldZ op with
    | .o0, .o4 => some .addAIXH
    | .o0, .o5 => some .addAIXL
    | .o0, .o6 => some (.addAIXd b2)
    | .o1, .o4 => some .adcAIXH
    | .o1, .o5 => some .adcAIXL
    | .o1, .o6 => some (.adcAIXd b2)
    | .o2, .o4 => some .subIXH
    | .o2, .o5 => some .subIXL
    | .o2, .o6 => some (.subIXd b2)
    | .o3, .o4 => some .sbcAIXH
    | .o3, .o5 => some .sbcAIXL
    | .o3, .o6 => some (.sbcAIXd b2)
    | .o4, .o4 => some .andIXH
    | .o4, .o5 => some .andIXL
    | .o4, .o6 => some (.andIXd b2)
    | .o5, .o4 => some .xorIXH
    | .o5, .o5 => some .xorIXL
    | .o5, .o6 => some (.xorIXd b2)
    | .o6, .o4 => some .orIXH
    | .o6, .o5 => some .orIXL
    | .o6, .o6 => some (.orIXd b2)
    | .o7, .o4 => some .cpIXH
    | .o7, .o5 => some .cpIXL
    | .o7, .o6 => some (.cpIXd b2)
    | _, _ => none
  | .q3 =>
    match fieldY op, fieldZ op with
    | .o4, .o1 => some .popIX
    | .o4, .o3 => some .exIndSPIX
    | .o4, .o5 => some .pushIX
    | .o5, .o1 => some .jpIX
    | .o7, .o1 => some .ldSPIX
    | _, _ => none

/-- The DDCB table (R122): the final opcode byte with the displacement it takes. -/
def decodeDDCB (d op : Byte) : Instr :=
  let y := fieldY op
  let z := fieldZ op
  match fieldX op, Reg8.ofCode z with
  | .q0, none =>
    match y with
    | .o0 => .rlcIXd d
    | .o1 => .rrcIXd d
    | .o2 => .rlIXd d
    | .o3 => .rrIXd d
    | .o4 => .slaIXd d
    | .o5 => .sraIXd d
    | .o6 => .sllIXd d
    | .o7 => .srlIXd d
  | .q0, some r =>
    match y with
    | .o0 => .rlcIXdR d r
    | .o1 => .rrcIXdR d r
    | .o2 => .rlIXdR d r
    | .o3 => .rrIXdR d r
    | .o4 => .slaIXdR d r
    | .o5 => .sraIXdR d r
    | .o6 => .sllIXdR d r
    | .o7 => .srlIXdR d r
  | .q1, _ => .bitBIXd y d z
  | .q2, none => .resBIXd y d
  | .q2, some r => .resBIXdR y d r
  | .q3, none => .setBIXd y d
  | .q3, some r => .setBIXdR y d r

/-- The dispatch after DD (R136): CB, a recognised byte, or a wasted prefix. -/
def dispatchDD (b1 b2 b3 : Byte) : Instr :=
  if b1 = 0xCB then decodeDDCB b2 b3
  else match decodeDD b1 b2 b3 with
    | some i => i
    | none => .wastedDD

/-- The recognised bytes after FD (R121, R138), by the fields of the byte; `none` is a byte outside the set. -/
def decodeFD (op b2 b3 : Byte) : Option Instr :=
  let nn := nnOf b2 b3
  match fieldX op with
  | .q0 =>
    match fieldZ op, fieldY op with
    | .o1, .o1 => some (.addIYPp .bc)
    | .o1, .o3 => some (.addIYPp .de)
    | .o1, .o4 => some (.ldIYNn nn)
    | .o1, .o5 => some (.addIYPp .xy)
    | .o1, .o7 => some (.addIYPp .sp)
    | .o2, .o4 => some (.ldIndNnIY nn)
    | .o2, .o5 => some (.ldIYIndNn nn)
    | .o3, .o4 => some .incIY
    | .o3, .o5 => some .decIY
    | .o4, .o4 => some .incIYH
    | .o4, .o5 => some .incIYL
    | .o4, .o6 => some (.incIYd b2)
    | .o5, .o4 => some .decIYH
    | .o5, .o5 => some .decIYL
    | .o5, .o6 => some (.decIYd b2)
    | .o6, .o4 => some (.ldIYHN b2)
    | .o6, .o5 => some (.ldIYLN b2)
    | .o6, .o6 => some (.ldIYdN b2 b3)
    | _, _ => none
  | .q1 =>
    match fieldY op, fieldZ op with
    | .o0, .o4 => some .ldBIYH
    | .o0, .o5 => some .ldBIYL
    | .o0, .o6 => some (.ldBIYd b2)
    | .o1, .o4 => some .ldCIYH
    | .o1, .o5 => some .ldCIYL
    | .o1, .o6 => some (.ldCIYd b2)
    | .o2, .o4 => some .ldDIYH
    | .o2, .o5 => some .ldDIYL
    | .o2, .o6 => some (.ldDIYd b2)
    | .o3, .o4 => some .ldEIYH
    | .o3, .o5 => some .ldEIYL
    | .o3, .o6 => some (.ldEIYd b2)
    | .o4, .o0 => some .ldIYHB
    | .o4, .o1 => some .ldIYHC
    | .o4, .o2 => some .ldIYHD
    | .o4, .o3 => some .ldIYHE
    | .o4, .o4 => some .ldIYHIYH
    | .o4, .o5 => some .ldIYHIYL
    | .o4, .o6 => some (.ldHIYd b2)
    | .o4, .o7 => some .ldIYHA
    | .o5, .o0 => some .ldIYLB
    | .o5, .o1 => some .ldIYLC
    | .o5, .o2 => some .ldIYLD
    | .o5, .o3 => some .ldIYLE
    | .o5, .o4 => some .ldIYLIYH
    | .o5, .o5 => some .ldIYLIYL
    | .o5, .o6 => some (.ldLIYd b2)
    | .o5, .o7 => some .ldIYLA
    | .o6, .o0 => some (.ldIYdB b2)
    | .o6, .o1 => some (.ldIYdC b2)
    | .o6, .o2 => some (.ldIYdD b2)
    | .o6, .o3 => some (.ldIYdE b2)
    | .o6, .o4 => some (.ldIYdH b2)
    | .o6, .o5 => some (.ldIYdL b2)
    | .o6, .o7 => some (.ldIYdA b2)
    | .o7, .o4 => some .ldAIYH
    | .o7, .o5 => some .ldAIYL
    | .o7, .o6 => some (.ldAIYd b2)
    | _, _ => none
  | .q2 =>
    match fieldY op, fieldZ op with
    | .o0, .o4 => some .addAIYH
    | .o0, .o5 => some .addAIYL
    | .o0, .o6 => some (.addAIYd b2)
    | .o1, .o4 => some .adcAIYH
    | .o1, .o5 => some .adcAIYL
    | .o1, .o6 => some (.adcAIYd b2)
    | .o2, .o4 => some .subIYH
    | .o2, .o5 => some .subIYL
    | .o2, .o6 => some (.subIYd b2)
    | .o3, .o4 => some .sbcAIYH
    | .o3, .o5 => some .sbcAIYL
    | .o3, .o6 => some (.sbcAIYd b2)
    | .o4, .o4 => some .andIYH
    | .o4, .o5 => some .andIYL
    | .o4, .o6 => some (.andIYd b2)
    | .o5, .o4 => some .xorIYH
    | .o5, .o5 => some .xorIYL
    | .o5, .o6 => some (.xorIYd b2)
    | .o6, .o4 => some .orIYH
    | .o6, .o5 => some .orIYL
    | .o6, .o6 => some (.orIYd b2)
    | .o7, .o4 => some .cpIYH
    | .o7, .o5 => some .cpIYL
    | .o7, .o6 => some (.cpIYd b2)
    | _, _ => none
  | .q3 =>
    match fieldY op, fieldZ op with
    | .o4, .o1 => some .popIY
    | .o4, .o3 => some .exIndSPIY
    | .o4, .o5 => some .pushIY
    | .o5, .o1 => some .jpIY
    | .o7, .o1 => some .ldSPIY
    | _, _ => none

/-- The FDCB table (R122): the final opcode byte with the displacement it takes. -/
def decodeFDCB (d op : Byte) : Instr :=
  let y := fieldY op
  let z := fieldZ op
  match fieldX op, Reg8.ofCode z with
  | .q0, none =>
    match y with
    | .o0 => .rlcIYd d
    | .o1 => .rrcIYd d
    | .o2 => .rlIYd d
    | .o3 => .rrIYd d
    | .o4 => .slaIYd d
    | .o5 => .sraIYd d
    | .o6 => .sllIYd d
    | .o7 => .srlIYd d
  | .q0, some r =>
    match y with
    | .o0 => .rlcIYdR d r
    | .o1 => .rrcIYdR d r
    | .o2 => .rlIYdR d r
    | .o3 => .rrIYdR d r
    | .o4 => .slaIYdR d r
    | .o5 => .sraIYdR d r
    | .o6 => .sllIYdR d r
    | .o7 => .srlIYdR d r
  | .q1, _ => .bitBIYd y d z
  | .q2, none => .resBIYd y d
  | .q2, some r => .resBIYdR y d r
  | .q3, none => .setBIYd y d
  | .q3, some r => .setBIYdR y d r

/-- The dispatch after FD (R136): CB, a recognised byte, or a wasted prefix. -/
def dispatchFD (b1 b2 b3 : Byte) : Instr :=
  if b1 = 0xCB then decodeFDCB b2 b3
  else match decodeFD b1 b2 b3 with
    | some i => i
    | none => .wastedFD

/-! ## The decoder -/

/-- `Execute(b0)` (R131) on the bytes at PC: total, since no byte sequence is illegal (R124). A byte the instruction
does not have is not looked at. Past the first three tests the main table answers for every byte but FD. -/
def decode4 (b0 b1 b2 b3 : Byte) : Instr :=
  if b0 = 0xCB then decodeCB b1
  else if b0 = 0xED then decodeED b1 b2 b3
  else if b0 = 0xDD then dispatchDD b1 b2 b3
  else match decodeMain b0 b1 b2 with
    | some i => i
    | none => dispatchFD b1 b2 b3

/-- The instruction formats (R110). -/
inductive Format where
  | u1 | u2n | u2e | u3nn | cb2 | ed2 | ed4nn | edx | xy2 | xy3d | xy3n | xy4nn | xy4dn | xycb4 | xyw
  deriving DecidableEq, Repr

/-- The length of a format in bytes (R110). -/
def Format.length (f : Format) : Nat :=
  match f with
  | .u1 | .xyw => 1
  | .u2n | .u2e | .cb2 | .ed2 | .edx | .xy2 => 2
  | .u3nn | .xy3d | .xy3n => 3
  | .ed4nn | .xy4nn | .xy4dn | .xycb4 => 4

/-- The format of a row (spec/opcode_table.json `format`). -/
def Instr.format (i : Instr) : Format :=
  match i with
  | .nop | .exAFAF | .addHLRp _ | .ldIndBCA | .ldIndDEA | .ldAIndBC | .ldAIndDE | .incRp _ | .decRp _ | .incIndHL | .incR _
  | .decIndHL | .decR _ | .rlca | .rrca | .rla | .rra | .daa | .cpl | .scf | .ccf | .halt | .ldRIndHL _ | .ldIndHLR _ | .ldRR _ _
  | .addAIndHL | .addAR _ | .adcAIndHL | .adcAR _ | .subIndHL | .subR _ | .sbcAIndHL | .sbcAR _ | .andIndHL | .andR _ | .xorIndHL
  | .xorR _ | .orIndHL | .orR _ | .cpIndHL | .cpR _ | .retCc _ | .popQq _ | .ret | .exx | .jpHL | .ldSPHL | .exIndSPHL | .exDEHL
  | .di | .ei | .pushQq _ | .rst _ => .u1
  | .ldIndHLN _ | .ldRN _ _ | .outPortNA _ | .inAPortN _ | .addAN _ | .adcAN _ | .subN _ | .sbcAN _ | .andN _ | .xorN _ | .orN _
  | .cpN _ => .u2n
  | .djnz _ | .jr _ | .jrCc _ _ => .u2e
  | .ldRpNn _ _ | .ldIndNnHL _ | .ldIndNnA _ | .ldHLIndNn _ | .ldAIndNn _ | .jpCcNn _ _ | .jpNn _ | .callCcNn _ _ | .callNn _ => .u3nn
  | .rlcIndHL | .rlcR _ | .rrcIndHL | .rrcR _ | .rlIndHL | .rlR _ | .rrIndHL | .rrR _ | .slaIndHL | .slaR _ | .sraIndHL | .sraR _
  | .sllIndHL | .sllR _ | .srlIndHL | .srlR _ | .bitBIndHL _ | .bitBR _ _ | .resBIndHL _ | .resBR _ _ | .setBIndHL _ | .setBR _ _ => .cb2
  | .ldi | .cpi | .ini | .outi | .ldd | .cpd | .ind | .outd | .ldir | .cpir | .inir | .otir | .lddr | .cpdr | .indr | .otdr
  | .inFPortC | .inRPortC _ | .outPortC0 | .outPortCR _ | .sbcHLRp _ | .adcHLRp _ | .neg _ | .reti | .retn _ | .im0 _ | .im1 _
  | .im2 _ | .ldIA | .ldRA | .ldAI | .ldAR | .rrd | .rld | .edNop _ => .ed2
  | .ldIndNnRp _ _ | .ldRpIndNn _ _ => .ed4nn
  | .unsupportedED00 _ | .unsupportedED80 _ | .unsupportedEDA4 _ | .unsupportedEDC0 _ => .edx
  | .addIXPp _ | .incIX | .decIX | .incIXH | .incIXL | .decIXH | .decIXL | .ldBIXH | .ldBIXL | .ldCIXH | .ldCIXL | .ldDIXH | .ldDIXL
  | .ldEIXH | .ldEIXL | .ldIXHB | .ldIXHC | .ldIXHD | .ldIXHE | .ldIXHIXH | .ldIXHIXL | .ldIXHA | .ldIXLB | .ldIXLC | .ldIXLD
  | .ldIXLE | .ldIXLIXH | .ldIXLIXL | .ldIXLA | .ldAIXH | .ldAIXL | .addAIXH | .addAIXL | .adcAIXH | .adcAIXL | .subIXH | .subIXL
  | .sbcAIXH | .sbcAIXL | .andIXH | .andIXL | .xorIXH | .xorIXL | .orIXH | .orIXL | .cpIXH | .cpIXL | .popIX | .exIndSPIX | .pushIX
  | .jpIX | .ldSPIX | .addIYPp _ | .incIY | .decIY | .incIYH | .incIYL | .decIYH | .decIYL | .ldBIYH | .ldBIYL | .ldCIYH | .ldCIYL
  | .ldDIYH | .ldDIYL | .ldEIYH | .ldEIYL | .ldIYHB | .ldIYHC | .ldIYHD | .ldIYHE | .ldIYHIYH | .ldIYHIYL | .ldIYHA | .ldIYLB
  | .ldIYLC | .ldIYLD | .ldIYLE | .ldIYLIYH | .ldIYLIYL | .ldIYLA | .ldAIYH | .ldAIYL | .addAIYH | .addAIYL | .adcAIYH | .adcAIYL
  | .subIYH | .subIYL | .sbcAIYH | .sbcAIYL | .andIYH | .andIYL | .xorIYH | .xorIYL | .orIYH | .orIYL | .cpIYH | .cpIYL | .popIY
  | .exIndSPIY | .pushIY | .jpIY | .ldSPIY => .xy2
  | .incIXd _ | .decIXd _ | .ldBIXd _ | .ldCIXd _ | .ldDIXd _ | .ldEIXd _ | .ldHIXd _ | .ldLIXd _ | .ldAIXd _ | .ldIXdB _
  | .ldIXdC _ | .ldIXdD _ | .ldIXdE _ | .ldIXdH _ | .ldIXdL _ | .ldIXdA _ | .addAIXd _ | .adcAIXd _ | .subIXd _ | .sbcAIXd _
  | .andIXd _ | .xorIXd _ | .orIXd _ | .cpIXd _ | .incIYd _ | .decIYd _ | .ldBIYd _ | .ldCIYd _ | .ldDIYd _ | .ldEIYd _ | .ldHIYd _
  | .ldLIYd _ | .ldAIYd _ | .ldIYdB _ | .ldIYdC _ | .ldIYdD _ | .ldIYdE _ | .ldIYdH _ | .ldIYdL _ | .ldIYdA _ | .addAIYd _
  | .adcAIYd _ | .subIYd _ | .sbcAIYd _ | .andIYd _ | .xorIYd _ | .orIYd _ | .cpIYd _ => .xy3d
  | .ldIXHN _ | .ldIXLN _ | .ldIYHN _ | .ldIYLN _ => .xy3n
  | .ldIXNn _ | .ldIndNnIX _ | .ldIXIndNn _ | .ldIYNn _ | .ldIndNnIY _ | .ldIYIndNn _ => .xy4nn
  | .ldIXdN _ _ | .ldIYdN _ _ => .xy4dn
  | .rlcIXd _ | .rlcIXdR _ _ | .rrcIXd _ | .rrcIXdR _ _ | .rlIXd _ | .rlIXdR _ _ | .rrIXd _ | .rrIXdR _ _ | .slaIXd _ | .slaIXdR _ _
  | .sraIXd _ | .sraIXdR _ _ | .sllIXd _ | .sllIXdR _ _ | .srlIXd _ | .srlIXdR _ _ | .bitBIXd _ _ _ | .resBIXd _ _ | .resBIXdR _ _ _
  | .setBIXd _ _ | .setBIXdR _ _ _ | .rlcIYd _ | .rlcIYdR _ _ | .rrcIYd _ | .rrcIYdR _ _ | .rlIYd _ | .rlIYdR _ _ | .rrIYd _
  | .rrIYdR _ _ | .slaIYd _ | .slaIYdR _ _ | .sraIYd _ | .sraIYdR _ _ | .sllIYd _ | .sllIYdR _ _ | .srlIYd _ | .srlIYdR _ _
  | .bitBIYd _ _ _ | .resBIYd _ _ | .resBIYdR _ _ _ | .setBIYd _ _ | .setBIYdR _ _ _ => .xycb4
  | .wastedDD | .wastedFD => .xyw

/-- The length of an instruction (R117). -/
def Instr.length (i : Instr) : Nat := i.format.length

/-- How many bytes the step fetches before the operation (R141): the length, and for a wasted prefix also the byte after it, over which
the fallback steps back (R139, log 10). -/
def Instr.fetchCount (i : Instr) : Nat :=
  match i.format with
  | .xyw => 2
  | .u1 | .u2n | .u2e | .u3nn | .cb2 | .ed2 | .ed4nn | .edx | .xy2 | .xy3d | .xy3n | .xy4nn | .xy4dn | .xycb4 => i.length

/-- What the dispatcher adds to R (R132, R133, R134, R136): 1 without a prefix, 2 with one. -/
def Instr.refreshCount (i : Instr) : Nat :=
  match i.format with
  | .u1 | .u2n | .u2e | .u3nn => 1
  | .cb2 | .ed2 | .ed4nn | .edx | .xy2 | .xy3d | .xy3n | .xy4nn | .xy4dn | .xycb4 | .xyw => 2

/-- Why a list of bytes is not decoded: it ends before the instruction (or, after DD or FD, the byte that tells whether the prefix is
wasted) does. No list that is long enough is rejected (R124). -/
inductive Reject where
  | truncated
  deriving DecidableEq, Repr

/-- Decode the first instruction of a list of bytes: the instruction and the bytes after it. -/
def decode (bs : List Byte) : Except Reject (Instr × List Byte) :=
  let i := decode4 (bs.getD 0 0) (bs.getD 1 0) (bs.getD 2 0) (bs.getD 3 0)
  if bs.length < i.fetchCount then .error .truncated else .ok (i, bs.drop i.length)

/-! ## The encoder -/

/-- The code of a register (R102). -/
def Reg8.code (r : Reg8) : Oct :=
  match r with
  | .b => .o0
  | .c => .o1
  | .d => .o2
  | .e => .o3
  | .h => .o4
  | .l => .o5
  | .a => .o7

/-- The field `y` of a pair's code rp in bits 5:4 and the bit q (R101, R103). -/
def RegPair.code (p : RegPair) (q : Bool) : Oct :=
  match p with
  | .bc => Oct.ofBits false false q
  | .de => Oct.ofBits false true q
  | .hl => Oct.ofBits true false q
  | .sp => Oct.ofBits true true q

/-- The field `y` of a pair's code rp2 and the bit q (R101, R104). -/
def StackPair.code (p : StackPair) (q : Bool) : Oct :=
  match p with
  | .bc => Oct.ofBits false false q
  | .de => Oct.ofBits false true q
  | .hl => Oct.ofBits true false q
  | .af => Oct.ofBits true true q

/-- The field `y` of a pair's code rp after a DD or FD prefix and the bit q (R101, R103). -/
def IdxPair.code (p : IdxPair) (q : Bool) : Oct :=
  match p with
  | .bc => Oct.ofBits false false q
  | .de => Oct.ofBits false true q
  | .xy => Oct.ofBits true false q
  | .sp => Oct.ofBits true true q

/-- The code of a condition (R105). -/
def Cond.code (cc : Cond) : Oct :=
  match cc with
  | .nz => .o0
  | .z => .o1
  | .nc => .o2
  | .c => .o3
  | .po => .o4
  | .pe => .o5
  | .p => .o6
  | .m => .o7

/-- The field `y` of JR cc: its code is `y - 4` (R105). -/
def JrCond.code (cc : JrCond) : Oct :=
  match cc with
  | .nz => .o4
  | .z => .o5
  | .nc => .o6
  | .c => .o7

/-- An opcode byte from its fields (R101). -/
def opByte (x : Nat) (y z : Oct) : Byte := BitVec.ofNat 8 (x * 64 + y.toNat * 8 + z.toNat)

/-- The first byte of an immediate nn (R112). -/
def lowByte (nn : Word) : Byte := nn.extractLsb' 0 8

/-- The second byte of an immediate nn (R112). -/
def highByte (nn : Word) : Byte := nn.extractLsb' 8 8

/-- The bytes of an instruction, in the order of its format (R110), from the match and mask of its row (R123). -/
def encode (i : Instr) : List Byte :=
  match i with
  | .nop => [0x00]
  | .exAFAF => [0x08]
  | .djnz e => [0x10, e]
  | .jr e => [0x18, e]
  | .jrCc cc e => [opByte 0 cc.code .o0, e]
  | .ldRpNn rp nn => [opByte 0 (rp.code false) .o1, lowByte nn, highByte nn]
  | .addHLRp rp => [opByte 0 (rp.code true) .o1]
  | .ldIndBCA => [0x02]
  | .ldIndDEA => [0x12]
  | .ldIndNnHL nn => [0x22, lowByte nn, highByte nn]
  | .ldIndNnA nn => [0x32, lowByte nn, highByte nn]
  | .ldAIndBC => [0x0A]
  | .ldAIndDE => [0x1A]
  | .ldHLIndNn nn => [0x2A, lowByte nn, highByte nn]
  | .ldAIndNn nn => [0x3A, lowByte nn, highByte nn]
  | .incRp rp => [opByte 0 (rp.code false) .o3]
  | .decRp rp => [opByte 0 (rp.code true) .o3]
  | .incIndHL => [0x34]
  | .incR r => [opByte 0 r.code .o4]
  | .decIndHL => [0x35]
  | .decR r => [opByte 0 r.code .o5]
  | .ldIndHLN n => [0x36, n]
  | .ldRN r n => [opByte 0 r.code .o6, n]
  | .rlca => [0x07]
  | .rrca => [0x0F]
  | .rla => [0x17]
  | .rra => [0x1F]
  | .daa => [0x27]
  | .cpl => [0x2F]
  | .scf => [0x37]
  | .ccf => [0x3F]
  | .halt => [0x76]
  | .ldRIndHL r => [opByte 1 r.code .o6]
  | .ldIndHLR r => [opByte 1 .o6 r.code]
  | .ldRR r r' => [opByte 1 r.code r'.code]
  | .addAIndHL => [0x86]
  | .addAR r => [opByte 2 .o0 r.code]
  | .adcAIndHL => [0x8E]
  | .adcAR r => [opByte 2 .o1 r.code]
  | .subIndHL => [0x96]
  | .subR r => [opByte 2 .o2 r.code]
  | .sbcAIndHL => [0x9E]
  | .sbcAR r => [opByte 2 .o3 r.code]
  | .andIndHL => [0xA6]
  | .andR r => [opByte 2 .o4 r.code]
  | .xorIndHL => [0xAE]
  | .xorR r => [opByte 2 .o5 r.code]
  | .orIndHL => [0xB6]
  | .orR r => [opByte 2 .o6 r.code]
  | .cpIndHL => [0xBE]
  | .cpR r => [opByte 2 .o7 r.code]
  | .retCc cc => [opByte 3 cc.code .o0]
  | .popQq qq => [opByte 3 (qq.code false) .o1]
  | .ret => [0xC9]
  | .exx => [0xD9]
  | .jpHL => [0xE9]
  | .ldSPHL => [0xF9]
  | .jpCcNn cc nn => [opByte 3 cc.code .o2, lowByte nn, highByte nn]
  | .jpNn nn => [0xC3, lowByte nn, highByte nn]
  | .outPortNA n => [0xD3, n]
  | .inAPortN n => [0xDB, n]
  | .exIndSPHL => [0xE3]
  | .exDEHL => [0xEB]
  | .di => [0xF3]
  | .ei => [0xFB]
  | .callCcNn cc nn => [opByte 3 cc.code .o4, lowByte nn, highByte nn]
  | .pushQq qq => [opByte 3 (qq.code false) .o5]
  | .callNn nn => [0xCD, lowByte nn, highByte nn]
  | .addAN n => [0xC6, n]
  | .adcAN n => [0xCE, n]
  | .subN n => [0xD6, n]
  | .sbcAN n => [0xDE, n]
  | .andN n => [0xE6, n]
  | .xorN n => [0xEE, n]
  | .orN n => [0xF6, n]
  | .cpN n => [0xFE, n]
  | .rst p => [opByte 3 p .o7]
  | .rlcIndHL => [0xCB, 0x06]
  | .rlcR r => [0xCB, opByte 0 .o0 r.code]
  | .rrcIndHL => [0xCB, 0x0E]
  | .rrcR r => [0xCB, opByte 0 .o1 r.code]
  | .rlIndHL => [0xCB, 0x16]
  | .rlR r => [0xCB, opByte 0 .o2 r.code]
  | .rrIndHL => [0xCB, 0x1E]
  | .rrR r => [0xCB, opByte 0 .o3 r.code]
  | .slaIndHL => [0xCB, 0x26]
  | .slaR r => [0xCB, opByte 0 .o4 r.code]
  | .sraIndHL => [0xCB, 0x2E]
  | .sraR r => [0xCB, opByte 0 .o5 r.code]
  | .sllIndHL => [0xCB, 0x36]
  | .sllR r => [0xCB, opByte 0 .o6 r.code]
  | .srlIndHL => [0xCB, 0x3E]
  | .srlR r => [0xCB, opByte 0 .o7 r.code]
  | .bitBIndHL b => [0xCB, opByte 1 b .o6]
  | .bitBR b r => [0xCB, opByte 1 b r.code]
  | .resBIndHL b => [0xCB, opByte 2 b .o6]
  | .resBR b r => [0xCB, opByte 2 b r.code]
  | .setBIndHL b => [0xCB, opByte 3 b .o6]
  | .setBR b r => [0xCB, opByte 3 b r.code]
  | .unsupportedED00 op => [0xED, op]
  | .unsupportedED80 op => [0xED, op]
  | .unsupportedEDA4 op => [0xED, op]
  | .unsupportedEDC0 op => [0xED, op]
  | .ldi => [0xED, 0xA0]
  | .cpi => [0xED, 0xA1]
  | .ini => [0xED, 0xA2]
  | .outi => [0xED, 0xA3]
  | .ldd => [0xED, 0xA8]
  | .cpd => [0xED, 0xA9]
  | .ind => [0xED, 0xAA]
  | .outd => [0xED, 0xAB]
  | .ldir => [0xED, 0xB0]
  | .cpir => [0xED, 0xB1]
  | .inir => [0xED, 0xB2]
  | .otir => [0xED, 0xB3]
  | .lddr => [0xED, 0xB8]
  | .cpdr => [0xED, 0xB9]
  | .indr => [0xED, 0xBA]
  | .otdr => [0xED, 0xBB]
  | .inFPortC => [0xED, 0x70]
  | .inRPortC r => [0xED, opByte 1 r.code .o0]
  | .outPortC0 => [0xED, 0x71]
  | .outPortCR r => [0xED, opByte 1 r.code .o1]
  | .sbcHLRp rp => [0xED, opByte 1 (rp.code false) .o2]
  | .adcHLRp rp => [0xED, opByte 1 (rp.code true) .o2]
  | .ldIndNnRp rp nn => [0xED, opByte 1 (rp.code false) .o3, lowByte nn, highByte nn]
  | .ldRpIndNn rp nn => [0xED, opByte 1 (rp.code true) .o3, lowByte nn, highByte nn]
  | .neg y => [0xED, opByte 1 y .o4]
  | .reti => [0xED, 0x4D]
  | .retn y => [0xED, opByte 1 y .o5]
  | .im0 y => [0xED, opByte 1 y .o6]
  | .im1 y => [0xED, opByte 1 y .o6]
  | .im2 y => [0xED, opByte 1 y .o6]
  | .ldIA => [0xED, 0x47]
  | .ldRA => [0xED, 0x4F]
  | .ldAI => [0xED, 0x57]
  | .ldAR => [0xED, 0x5F]
  | .rrd => [0xED, 0x67]
  | .rld => [0xED, 0x6F]
  | .edNop y => [0xED, opByte 1 y .o7]
  | .addIXPp pp => [0xDD, opByte 0 (pp.code true) .o1]
  | .ldIXNn nn => [0xDD, 0x21, lowByte nn, highByte nn]
  | .ldIndNnIX nn => [0xDD, 0x22, lowByte nn, highByte nn]
  | .ldIXIndNn nn => [0xDD, 0x2A, lowByte nn, highByte nn]
  | .incIX => [0xDD, 0x23]
  | .decIX => [0xDD, 0x2B]
  | .incIXH => [0xDD, 0x24]
  | .incIXL => [0xDD, 0x2C]
  | .decIXH => [0xDD, 0x25]
  | .decIXL => [0xDD, 0x2D]
  | .ldIXHN n => [0xDD, 0x26, n]
  | .ldIXLN n => [0xDD, 0x2E, n]
  | .incIXd d => [0xDD, 0x34, d]
  | .decIXd d => [0xDD, 0x35, d]
  | .ldIXdN d n => [0xDD, 0x36, d, n]
  | .ldBIXd d => [0xDD, 0x46, d]
  | .ldCIXd d => [0xDD, 0x4E, d]
  | .ldDIXd d => [0xDD, 0x56, d]
  | .ldEIXd d => [0xDD, 0x5E, d]
  | .ldHIXd d => [0xDD, 0x66, d]
  | .ldLIXd d => [0xDD, 0x6E, d]
  | .ldAIXd d => [0xDD, 0x7E, d]
  | .ldIXdB d => [0xDD, 0x70, d]
  | .ldIXdC d => [0xDD, 0x71, d]
  | .ldIXdD d => [0xDD, 0x72, d]
  | .ldIXdE d => [0xDD, 0x73, d]
  | .ldIXdH d => [0xDD, 0x74, d]
  | .ldIXdL d => [0xDD, 0x75, d]
  | .ldIXdA d => [0xDD, 0x77, d]
  | .ldBIXH => [0xDD, 0x44]
  | .ldBIXL => [0xDD, 0x45]
  | .ldCIXH => [0xDD, 0x4C]
  | .ldCIXL => [0xDD, 0x4D]
  | .ldDIXH => [0xDD, 0x54]
  | .ldDIXL => [0xDD, 0x55]
  | .ldEIXH => [0xDD, 0x5C]
  | .ldEIXL => [0xDD, 0x5D]
  | .ldIXHB => [0xDD, 0x60]
  | .ldIXHC => [0xDD, 0x61]
  | .ldIXHD => [0xDD, 0x62]
  | .ldIXHE => [0xDD, 0x63]
  | .ldIXHIXH => [0xDD, 0x64]
  | .ldIXHIXL => [0xDD, 0x65]
  | .ldIXHA => [0xDD, 0x67]
  | .ldIXLB => [0xDD, 0x68]
  | .ldIXLC => [0xDD, 0x69]
  | .ldIXLD => [0xDD, 0x6A]
  | .ldIXLE => [0xDD, 0x6B]
  | .ldIXLIXH => [0xDD, 0x6C]
  | .ldIXLIXL => [0xDD, 0x6D]
  | .ldIXLA => [0xDD, 0x6F]
  | .ldAIXH => [0xDD, 0x7C]
  | .ldAIXL => [0xDD, 0x7D]
  | .addAIXH => [0xDD, 0x84]
  | .addAIXL => [0xDD, 0x85]
  | .addAIXd d => [0xDD, 0x86, d]
  | .adcAIXH => [0xDD, 0x8C]
  | .adcAIXL => [0xDD, 0x8D]
  | .adcAIXd d => [0xDD, 0x8E, d]
  | .subIXH => [0xDD, 0x94]
  | .subIXL => [0xDD, 0x95]
  | .subIXd d => [0xDD, 0x96, d]
  | .sbcAIXH => [0xDD, 0x9C]
  | .sbcAIXL => [0xDD, 0x9D]
  | .sbcAIXd d => [0xDD, 0x9E, d]
  | .andIXH => [0xDD, 0xA4]
  | .andIXL => [0xDD, 0xA5]
  | .andIXd d => [0xDD, 0xA6, d]
  | .xorIXH => [0xDD, 0xAC]
  | .xorIXL => [0xDD, 0xAD]
  | .xorIXd d => [0xDD, 0xAE, d]
  | .orIXH => [0xDD, 0xB4]
  | .orIXL => [0xDD, 0xB5]
  | .orIXd d => [0xDD, 0xB6, d]
  | .cpIXH => [0xDD, 0xBC]
  | .cpIXL => [0xDD, 0xBD]
  | .cpIXd d => [0xDD, 0xBE, d]
  | .popIX => [0xDD, 0xE1]
  | .exIndSPIX => [0xDD, 0xE3]
  | .pushIX => [0xDD, 0xE5]
  | .jpIX => [0xDD, 0xE9]
  | .ldSPIX => [0xDD, 0xF9]
  | .rlcIXd d => [0xDD, 0xCB, d, 0x06]
  | .rlcIXdR d r => [0xDD, 0xCB, d, opByte 0 .o0 r.code]
  | .rrcIXd d => [0xDD, 0xCB, d, 0x0E]
  | .rrcIXdR d r => [0xDD, 0xCB, d, opByte 0 .o1 r.code]
  | .rlIXd d => [0xDD, 0xCB, d, 0x16]
  | .rlIXdR d r => [0xDD, 0xCB, d, opByte 0 .o2 r.code]
  | .rrIXd d => [0xDD, 0xCB, d, 0x1E]
  | .rrIXdR d r => [0xDD, 0xCB, d, opByte 0 .o3 r.code]
  | .slaIXd d => [0xDD, 0xCB, d, 0x26]
  | .slaIXdR d r => [0xDD, 0xCB, d, opByte 0 .o4 r.code]
  | .sraIXd d => [0xDD, 0xCB, d, 0x2E]
  | .sraIXdR d r => [0xDD, 0xCB, d, opByte 0 .o5 r.code]
  | .sllIXd d => [0xDD, 0xCB, d, 0x36]
  | .sllIXdR d r => [0xDD, 0xCB, d, opByte 0 .o6 r.code]
  | .srlIXd d => [0xDD, 0xCB, d, 0x3E]
  | .srlIXdR d r => [0xDD, 0xCB, d, opByte 0 .o7 r.code]
  | .bitBIXd b d z => [0xDD, 0xCB, d, opByte 1 b z]
  | .resBIXd b d => [0xDD, 0xCB, d, opByte 2 b .o6]
  | .resBIXdR b d r => [0xDD, 0xCB, d, opByte 2 b r.code]
  | .setBIXd b d => [0xDD, 0xCB, d, opByte 3 b .o6]
  | .setBIXdR b d r => [0xDD, 0xCB, d, opByte 3 b r.code]
  | .wastedDD => [0xDD]
  | .addIYPp pp => [0xFD, opByte 0 (pp.code true) .o1]
  | .ldIYNn nn => [0xFD, 0x21, lowByte nn, highByte nn]
  | .ldIndNnIY nn => [0xFD, 0x22, lowByte nn, highByte nn]
  | .ldIYIndNn nn => [0xFD, 0x2A, lowByte nn, highByte nn]
  | .incIY => [0xFD, 0x23]
  | .decIY => [0xFD, 0x2B]
  | .incIYH => [0xFD, 0x24]
  | .incIYL => [0xFD, 0x2C]
  | .decIYH => [0xFD, 0x25]
  | .decIYL => [0xFD, 0x2D]
  | .ldIYHN n => [0xFD, 0x26, n]
  | .ldIYLN n => [0xFD, 0x2E, n]
  | .incIYd d => [0xFD, 0x34, d]
  | .decIYd d => [0xFD, 0x35, d]
  | .ldIYdN d n => [0xFD, 0x36, d, n]
  | .ldBIYd d => [0xFD, 0x46, d]
  | .ldCIYd d => [0xFD, 0x4E, d]
  | .ldDIYd d => [0xFD, 0x56, d]
  | .ldEIYd d => [0xFD, 0x5E, d]
  | .ldHIYd d => [0xFD, 0x66, d]
  | .ldLIYd d => [0xFD, 0x6E, d]
  | .ldAIYd d => [0xFD, 0x7E, d]
  | .ldIYdB d => [0xFD, 0x70, d]
  | .ldIYdC d => [0xFD, 0x71, d]
  | .ldIYdD d => [0xFD, 0x72, d]
  | .ldIYdE d => [0xFD, 0x73, d]
  | .ldIYdH d => [0xFD, 0x74, d]
  | .ldIYdL d => [0xFD, 0x75, d]
  | .ldIYdA d => [0xFD, 0x77, d]
  | .ldBIYH => [0xFD, 0x44]
  | .ldBIYL => [0xFD, 0x45]
  | .ldCIYH => [0xFD, 0x4C]
  | .ldCIYL => [0xFD, 0x4D]
  | .ldDIYH => [0xFD, 0x54]
  | .ldDIYL => [0xFD, 0x55]
  | .ldEIYH => [0xFD, 0x5C]
  | .ldEIYL => [0xFD, 0x5D]
  | .ldIYHB => [0xFD, 0x60]
  | .ldIYHC => [0xFD, 0x61]
  | .ldIYHD => [0xFD, 0x62]
  | .ldIYHE => [0xFD, 0x63]
  | .ldIYHIYH => [0xFD, 0x64]
  | .ldIYHIYL => [0xFD, 0x65]
  | .ldIYHA => [0xFD, 0x67]
  | .ldIYLB => [0xFD, 0x68]
  | .ldIYLC => [0xFD, 0x69]
  | .ldIYLD => [0xFD, 0x6A]
  | .ldIYLE => [0xFD, 0x6B]
  | .ldIYLIYH => [0xFD, 0x6C]
  | .ldIYLIYL => [0xFD, 0x6D]
  | .ldIYLA => [0xFD, 0x6F]
  | .ldAIYH => [0xFD, 0x7C]
  | .ldAIYL => [0xFD, 0x7D]
  | .addAIYH => [0xFD, 0x84]
  | .addAIYL => [0xFD, 0x85]
  | .addAIYd d => [0xFD, 0x86, d]
  | .adcAIYH => [0xFD, 0x8C]
  | .adcAIYL => [0xFD, 0x8D]
  | .adcAIYd d => [0xFD, 0x8E, d]
  | .subIYH => [0xFD, 0x94]
  | .subIYL => [0xFD, 0x95]
  | .subIYd d => [0xFD, 0x96, d]
  | .sbcAIYH => [0xFD, 0x9C]
  | .sbcAIYL => [0xFD, 0x9D]
  | .sbcAIYd d => [0xFD, 0x9E, d]
  | .andIYH => [0xFD, 0xA4]
  | .andIYL => [0xFD, 0xA5]
  | .andIYd d => [0xFD, 0xA6, d]
  | .xorIYH => [0xFD, 0xAC]
  | .xorIYL => [0xFD, 0xAD]
  | .xorIYd d => [0xFD, 0xAE, d]
  | .orIYH => [0xFD, 0xB4]
  | .orIYL => [0xFD, 0xB5]
  | .orIYd d => [0xFD, 0xB6, d]
  | .cpIYH => [0xFD, 0xBC]
  | .cpIYL => [0xFD, 0xBD]
  | .cpIYd d => [0xFD, 0xBE, d]
  | .popIY => [0xFD, 0xE1]
  | .exIndSPIY => [0xFD, 0xE3]
  | .pushIY => [0xFD, 0xE5]
  | .jpIY => [0xFD, 0xE9]
  | .ldSPIY => [0xFD, 0xF9]
  | .rlcIYd d => [0xFD, 0xCB, d, 0x06]
  | .rlcIYdR d r => [0xFD, 0xCB, d, opByte 0 .o0 r.code]
  | .rrcIYd d => [0xFD, 0xCB, d, 0x0E]
  | .rrcIYdR d r => [0xFD, 0xCB, d, opByte 0 .o1 r.code]
  | .rlIYd d => [0xFD, 0xCB, d, 0x16]
  | .rlIYdR d r => [0xFD, 0xCB, d, opByte 0 .o2 r.code]
  | .rrIYd d => [0xFD, 0xCB, d, 0x1E]
  | .rrIYdR d r => [0xFD, 0xCB, d, opByte 0 .o3 r.code]
  | .slaIYd d => [0xFD, 0xCB, d, 0x26]
  | .slaIYdR d r => [0xFD, 0xCB, d, opByte 0 .o4 r.code]
  | .sraIYd d => [0xFD, 0xCB, d, 0x2E]
  | .sraIYdR d r => [0xFD, 0xCB, d, opByte 0 .o5 r.code]
  | .sllIYd d => [0xFD, 0xCB, d, 0x36]
  | .sllIYdR d r => [0xFD, 0xCB, d, opByte 0 .o6 r.code]
  | .srlIYd d => [0xFD, 0xCB, d, 0x3E]
  | .srlIYdR d r => [0xFD, 0xCB, d, opByte 0 .o7 r.code]
  | .bitBIYd b d z => [0xFD, 0xCB, d, opByte 1 b z]
  | .resBIYd b d => [0xFD, 0xCB, d, opByte 2 b .o6]
  | .resBIYdR b d r => [0xFD, 0xCB, d, opByte 2 b r.code]
  | .setBIYd b d => [0xFD, 0xCB, d, opByte 3 b .o6]
  | .setBIYdR b d r => [0xFD, 0xCB, d, opByte 3 b r.code]
  | .wastedFD => [0xFD]

/-! ## The table's words -/

/-- Byte `k` of a table word of `nbits` bits, numbered from the least significant bit of the first byte; a bit above `nbits` is 0. -/
def tableByte (nbits w k : Nat) : Byte := BitVec.ofNat 8 ((w % 2 ^ nbits) / 2 ^ (8 * k))

/-- The instruction the decoder reads from a table word. -/
def decodeTableWord (nbits w : Nat) : Option Instr :=
  match decode [tableByte nbits w 0, tableByte nbits w 1, tableByte nbits w 2, tableByte nbits w 3] with
  | .ok (i, _) => some i
  | .error _ => none

end Sys2Proof
end

