-- ==== Sys2Proof/Config.lean ====
section
/-! DEFINITION. The open parameters of the spec (spec/00_scope.md R8) as plain data, and the free values (its "draws", R15) as constants without a body. -/

namespace Sys2Proof.Config

/-- `FALLBACK_R` (D5): how R counts a wasted DD/FD prefix. The spec's default is `source`. -/
inductive FallbackR where
  | source
  | silicon
  deriving DecidableEq, Repr

/-- `UNDOC_XYCB` (D7): whether the DDCB/FDCB register-copy encodings are admitted: the spec's values `admit` (its default) and `refuse`. -/
inductive UndocXYCB where
  | admitted
  | refused
  deriving DecidableEq, Repr

/-- A range of addresses that are the host's and not plain RAM (D28): `base`, `base + 1`, …, `base + size - 1`. -/
structure Region where
  base : Nat
  size : Nat
  deriving DecidableEq, Repr

/-- The OPEN parameters of R8 that are fixed for one machine. No step changes them. -/
structure Params where
  fallbackR : FallbackR
  undocXYCB : UndocXYCB
  /-- `MemMap` (D28): the addresses that are not plain RAM; empty is the spec's default, all RAM. -/
  nonRam    : List Region
  deriving DecidableEq, Repr

/-- Which access of a step a byte is read by: the fetches of its instruction bytes and its first and second data read.
It keeps two reads of one step apart where the host answers them (R68 of spec/20_memory.md). -/
inductive Access where
  | fetch0 | fetch1 | fetch2 | fetch3
  | data0 | data1
  deriving DecidableEq, Repr

/-- The parameter `PortIn` (D27): the host's answer to the port read of a step, given the step's draw number and the port.
A free value (assumption log 3). -/
opaque portIn : Nat → Byte → Byte

/-- The host's answer to a read of an address that is not plain RAM (93_implementation_defined.md I9). A free value (log 3, log 5). -/
opaque hostByte : Nat → Access → Word → Byte

/-- F5 after BIT b,(HL) (D10). A free value (log 3). -/
opaque bitF5 : Nat → Bool

/-- F3 after BIT b,(HL) (D10). A free value (log 3). -/
opaque bitF3 : Nat → Bool

/-- H after a block input or output instruction (D9). A free value (log 3). -/
opaque ioH : Nat → Bool

/-- P/V after a block input or output instruction (D9). A free value (log 3). -/
opaque ioPV : Nat → Bool

/-- C after a block input or output instruction (D9). A free value (log 3). -/
opaque ioC : Nat → Bool

end Sys2Proof.Config
end

