-- ==== Sys2Proof/Machine/State.lean ====
section
/-! DEFINITION. The state of the machine (spec/10_state.md R20, R37, R38; spec/40_dispatch.md R130; spec/60_exceptions.md R401), why it can stop, and its value after reset (spec/70_reset_and_hazards.md R440). -/

namespace Sys2Proof.Machine

/-- One bank of the 8-bit registers: the main bank (R21) or the shadow bank (R24). BC, DE, HL and AF are views of it (R22, R23). -/
structure Bank where
  a : Byte
  f : Byte
  b : Byte
  c : Byte
  d : Byte
  e : Byte
  h : Byte
  l : Byte
  deriving DecidableEq, Repr

/-- The interrupt mode IM (R35). No other value can be written. -/
inductive IntMode where
  | im0
  | im1
  | im2
  deriving DecidableEq, Repr

/-- The `intInhibit` latch (R38): `none`, `ei` (after EI) or `prefix` (after a wasted DD/FD byte). -/
inductive Inhibit where
  | none
  | afterEi
  | afterPrefix
  deriving DecidableEq, Repr

/-- The instruction-boundary record (R144 of spec/40_dispatch.md). -/
structure Notification where
  isReturn : Bool
  isHalt   : Bool
  isLdSp   : Bool
  isEiOrDi : Bool
  deriving DecidableEq, Repr

/-- An output event: a record (R144), or a port access (R14 of spec/00_scope.md). -/
inductive Event where
  | notify (n : Notification)
  | portRead (port value : Byte)
  | portWrite (port value : Byte)
  deriving DecidableEq, Repr

/-- What the host sets at the start of one step (parameter `IntSource`, R401): whether it raises the one-shot NMI request, the level of
the maskable request, and the byte it drives on the data bus (assumption log 6). -/
structure HostInput where
  raiseNmi : Bool
  intReq   : Bool
  busByte  : Byte
  deriving DecidableEq, Repr

/-- Memory as a list of (address, byte) pairs in one canonical form; `Memory.wf` of Machine/Ops.lean says which (log 2). -/
abbrev Memory := List Host.Cell

/-- The state of one engine and what its host presents to it. -/
structure State where
  /-- The main registers A, F, B, C, D, E, H, L (R21, R28). -/
  main       : Bank
  /-- The shadow registers A', F', B', C', D', E', H', L' (R24). -/
  alt        : Bank
  ix         : Word
  iy         : Word
  sp         : Word
  pc         : Word
  /-- The interrupt vector register I (R31). -/
  i          : Byte
  /-- The refresh register R (R32, R33). -/
  r          : Byte
  iff1       : Bool
  iff2       : Bool
  im         : IntMode
  /-- The `halted` latch (R37). -/
  halted     : Bool
  intInhibit : Inhibit
  mem        : Memory
  /-- The one-shot non-maskable request (R401). -/
  nmiReq     : Bool
  /-- The level of the maskable request (R401). -/
  intReq     : Bool
  /-- The byte on the data bus at an acceptance (R406, R408). -/
  busByte    : Byte
  /-- What the host does at the start of the coming steps, the next one first; when it is empty the lines keep their levels (log 6). -/
  inputs     : List HostInput
  /-- The host's cycle counter: the sum of the T-states (R130, R416). -/
  cycles     : Nat
  /-- The output events, newest first (log 11). -/
  events     : List Event
  /-- The model's own counter of free values: the number of the current step (log 3). -/
  draw       : Nat
  /-- The open parameters (R8 of spec/00_scope.md); no step changes them (log 4). -/
  params     : Config.Params
  deriving DecidableEq, Repr

/-- The faults of the machine: none. R400: "No instruction and no byte sequence raises an exception, a trap or a fault", and
93_implementation_defined.md: "No behaviour is treated as `fault`" (log 18). -/
inductive Fault where
  deriving DecidableEq, Repr

/-- Why a step has no next state. The last two are the spec's own `Refuse()` (R15 of spec/00_scope.md). -/
inductive Refusal where
  /-- Raised by an arm of `exec` whose instruction has no meaning yet: no arm does. Safe: nothing is proved past it. -/
  | notModelled (mnemonic : String)
  /-- Raised by the DDCB/FDCB register-copy forms when `UNDOC_XYCB` is `refuse` (R304, D7). Safe: nothing is proved past it. -/
  | undocXYCBRefused
  /-- Raised by a mode-0 interrupt acceptance whose data-bus byte is no RST opcode (R406, D18). Safe: nothing is proved past it. -/
  | modeZeroBusByte
  deriving DecidableEq, Repr

/-- Every register of a bank at 0x00: the model's choice where R440 has a draw (log 1). -/
def Bank.zero : Bank := { a := 0, f := 0, b := 0, c := 0, d := 0, e := 0, h := 0, l := 0 }

/-- The machine right after reset (R440). The registers that R440 leaves as draws are zero (log 1), memory lists nothing (log 2), the
parameters are at the spec's defaults (log 4), and the host has presented nothing (log 6, log 7). -/
def State.reset : State where
  main := Bank.zero
  alt := Bank.zero
  ix := 0
  iy := 0
  sp := 0
  pc := 0
  i := 0
  r := 0
  iff1 := false
  iff2 := false
  im := .im0
  halted := false
  intInhibit := .none
  mem := []
  nmiReq := false
  intReq := false
  busByte := 0xFF
  inputs := []
  cycles := 0
  events := []
  draw := 0
  params := { fallbackR := .source, undocXYCB := .admitted, nonRam := [] }

end Sys2Proof.Machine
end

