-- ==== Sys2Proof/Machine/Flags.lean ====
section
/-! DEFINITION. The flag register as eight named flags (spec/10_state.md R28) and every flag computation: the ALU helpers (spec/44_alu8.md R231-R236), DAA (R260), the 16-bit sums (spec/46_alu16.md), the rotates and shifts (spec/47_rotate_shift_bit.md R305), BIT (R314), the block families (R216, R220, R366), and the conditions (R105). -/

namespace Sys2Proof.Machine

/-- The eight flags of F (R28). -/
structure Flags where
  s  : Bool
  z  : Bool
  f5 : Bool
  h  : Bool
  f3 : Bool
  pv : Bool
  n  : Bool
  c  : Bool
  deriving DecidableEq, Repr

/-- The layout of R28 read: bit 7 is S, then Z, F5, H, F3, P/V, N and bit 0 is C. -/
def Flags.ofByte (v : Byte) : Flags where
  s := v.getLsbD 7
  z := v.getLsbD 6
  f5 := v.getLsbD 5
  h := v.getLsbD 4
  f3 := v.getLsbD 3
  pv := v.getLsbD 2
  n := v.getLsbD 1
  c := v.getLsbD 0

/-- The layout of R28 written. -/
def Flags.toByte (fl : Flags) : Byte :=
  BitVec.ofNat 8 (fl.s.toNat * 128 + fl.z.toNat * 64 + fl.f5.toNat * 32 + fl.h.toNat * 16 +
    fl.f3.toNat * 8 + fl.pv.toNat * 4 + fl.n.toNat * 2 + fl.c.toNat)

/-- R231: true when the byte has an even number of 1 bits. -/
def parity (v : Byte) : Bool :=
  !(v.getLsbD 0 ^^ v.getLsbD 1 ^^ v.getLsbD 2 ^^ v.getLsbD 3 ^^
    v.getLsbD 4 ^^ v.getLsbD 5 ^^ v.getLsbD 6 ^^ v.getLsbD 7)

/-- R105: the predicate of a condition code on the flags. -/
def condHolds (cc : Cond) (fl : Flags) : Bool :=
  match cc with
  | .nz => !fl.z
  | .z => fl.z
  | .nc => !fl.c
  | .c => fl.c
  | .po => !fl.pv
  | .pe => fl.pv
  | .p => !fl.s
  | .m => fl.s

/-- R232: `add8(a, b, cin)`. -/
def add8 (a b : Byte) (cin : Bool) : Byte × Flags :=
  let t := a.toNat + b.toNat + cin.toNat
  let r := BitVec.ofNat 8 t
  (r, { s := r.getLsbD 7, z := r == 0, f5 := r.getLsbD 5, h := (a ^^^ b ^^^ r).getLsbD 4,
        f3 := r.getLsbD 3, pv := ((a ^^^ b ^^^ 0x80) &&& (b ^^^ r) &&& 0x80) != 0,
        n := false, c := t.testBit 8 })

/-- R233: `sub8(a, b, cin)`; the widened difference is taken modulo 512. -/
def sub8 (a b : Byte) (cin : Bool) : Byte × Flags :=
  let t := (512 + a.toNat - b.toNat - cin.toNat) % 512
  let r := BitVec.ofNat 8 t
  (r, { s := r.getLsbD 7, z := r == 0, f5 := r.getLsbD 5, h := (a ^^^ b ^^^ r).getLsbD 4,
        f3 := r.getLsbD 3, pv := ((a ^^^ b) &&& (a ^^^ r) &&& 0x80) != 0,
        n := true, c := t.testBit 8 })

/-- R234: the flags of AND (`h` true) and of XOR and OR (`h` false). -/
def logicFlags (r : Byte) (h : Bool) : Flags where
  s := r.getLsbD 7
  z := r == 0
  f5 := r.getLsbD 5
  h := h
  f3 := r.getLsbD 3
  pv := parity r
  n := false
  c := false

/-- R235: `inc8(v)`; C is unchanged. -/
def inc8 (v : Byte) (fl : Flags) : Byte × Flags :=
  let r := v + 1
  (r, { s := r.getLsbD 7, z := r == 0, f5 := r.getLsbD 5, h := (v &&& 0x0F) == 0x0F,
        f3 := r.getLsbD 3, pv := v == 0x7F, n := false, c := fl.c })

/-- R236: `dec8(v)`; C is unchanged. -/
def dec8 (v : Byte) (fl : Flags) : Byte × Flags :=
  let r := v - 1
  (r, { s := r.getLsbD 7, z := r == 0, f5 := r.getLsbD 5, h := (v &&& 0x0F) == 0x00,
        f3 := r.getLsbD 3, pv := v == 0x80, n := true, c := fl.c })

/-- The two-operand ALU operations (R106): the new A and the new flags (R237 to R244). CP leaves A and takes F5 and F3 from its operand (D11). -/
def aluApply (op : AluOp) (a s : Byte) (fl : Flags) : Byte × Flags :=
  match op with
  | .add => add8 a s false
  | .adc => add8 a s fl.c
  | .sub => sub8 a s false
  | .sbc => sub8 a s fl.c
  | .and => (a &&& s, logicFlags (a &&& s) true)
  | .xor => (a ^^^ s, logicFlags (a ^^^ s) false)
  | .or => (a ||| s, logicFlags (a ||| s) false)
  | .cp => (a, { (sub8 a s false).2 with f5 := s.getLsbD 5, f3 := s.getLsbD 3 })

/-- R260: DAA on A and the flags. -/
def daa (a : Byte) (fl : Flags) : Byte × Flags :=
  let low : Byte := if fl.h || decide ((a &&& 0x0F).toNat > 9) then 0x06 else 0x00
  let high : Byte := if fl.c || decide (a.toNat > 0x99) then 0x60 else 0x00
  let corr := low ||| high
  let r := if fl.n then a - corr else a + corr
  (r, { s := r.getLsbD 7, z := r == 0, f5 := r.getLsbD 5, h := (a ^^^ r).getLsbD 4,
        f3 := r.getLsbD 3, pv := parity r, n := fl.n, c := fl.c || decide (a.toNat > 0x99) })

/-- R261: CPL. -/
def cpl (a : Byte) (fl : Flags) : Byte × Flags :=
  let r := a ^^^ 0xFF
  (r, { fl with h := true, n := true, f5 := r.getLsbD 5, f3 := r.getLsbD 3 })

/-- R263: CCF; F5 and F3 from A (D12). -/
def ccf (a : Byte) (fl : Flags) : Flags :=
  { fl with h := fl.c, c := !fl.c, n := false, f5 := a.getLsbD 5, f3 := a.getLsbD 3 }

/-- R264: SCF; F5 and F3 from A (D12). -/
def scf (a : Byte) (fl : Flags) : Flags :=
  { fl with c := true, h := false, n := false, f5 := a.getLsbD 5, f3 := a.getLsbD 3 }

/-- R280, R283: the 16-bit ADD; S, Z and P/V are unchanged, F5 and F3 come from the result's high byte. -/
def add16 (a b : Word) (fl : Flags) : Word × Flags :=
  let t := a.toNat + b.toNat
  let r := BitVec.ofNat 16 t
  (r, { fl with h := (a ^^^ b ^^^ r).getLsbD 12, n := false, c := t.testBit 16,
                f5 := r.getLsbD 13, f3 := r.getLsbD 11 })

/-- R281: the 16-bit ADC. -/
def adc16 (a b : Word) (cin : Bool) : Word × Flags :=
  let t := a.toNat + b.toNat + cin.toNat
  let r := BitVec.ofNat 16 t
  (r, { s := r.getLsbD 15, z := r == 0, f5 := r.getLsbD 13, h := (a ^^^ b ^^^ r).getLsbD 12,
        f3 := r.getLsbD 11, pv := ((a ^^^ b ^^^ 0x8000) &&& (b ^^^ r) &&& 0x8000) != 0,
        n := false, c := t.testBit 16 })

/-- R282: the 16-bit SBC; the widened difference is taken modulo 0x20000. -/
def sbc16 (a b : Word) (cin : Bool) : Word × Flags :=
  let t := (0x20000 + a.toNat - b.toNat - cin.toNat) % 0x20000
  let r := BitVec.ofNat 16 t
  (r, { s := r.getLsbD 15, z := r == 0, f5 := r.getLsbD 13, h := (a ^^^ b ^^^ r).getLsbD 12,
        f3 := r.getLsbD 11, pv := ((a ^^^ b) &&& (a ^^^ r) &&& 0x8000) != 0,
        n := true, c := t.testBit 16 })

/-- A carry flag as the byte 0x01 or 0x00, to be shifted into a rotate. -/
def carryByte (c : Bool) : Byte := if c then 0x01 else 0x00

/-- R305: the result and the bit shifted out of a rotate or shift of `v`, with the carry flag `cin`. -/
def rotApply (k : Rot) (v : Byte) (cin : Bool) : Byte × Bool :=
  match k with
  | .rlc => ((v <<< 1) ||| carryByte (v.getLsbD 7), v.getLsbD 7)
  | .rrc => ((v >>> 1) ||| (carryByte (v.getLsbD 0) <<< 7), v.getLsbD 0)
  | .rl => ((v <<< 1) ||| carryByte cin, v.getLsbD 7)
  | .rr => ((v >>> 1) ||| (carryByte cin <<< 7), v.getLsbD 0)
  | .sla => (v <<< 1, v.getLsbD 7)
  | .sra => ((v >>> 1) ||| (v &&& 0x80), v.getLsbD 0)
  | .sll => ((v <<< 1) ||| 0x01, v.getLsbD 7)
  | .srl => (v >>> 1, v.getLsbD 0)

/-- R305: the flags of all eight rotates and shifts of the CB and DDCB/FDCB tables. -/
def rotFlags (r : Byte) (c : Bool) : Flags :=
  { logicFlags r false with c := c }

/-- R300 to R303: the flags of the accumulator rotates; S, Z and P/V are unchanged. -/
def accRotFlags (r : Byte) (c : Bool) (fl : Flags) : Flags :=
  { fl with c := c, h := false, n := false, f5 := r.getLsbD 5, f3 := r.getLsbD 3 }

/-- R314 to R316: the flags of BIT b on the byte `v`, with the F5 and F3 the form gives; C is unchanged (D30 for S). -/
def bitFlags (b : Oct) (v : Byte) (f5 f3 : Bool) (fl : Flags) : Flags :=
  let t := v.getLsbD b.toNat
  { s := (b == .o7) && t, z := !t, f5 := f5, h := true, f3 := f3, pv := !t, n := false, c := fl.c }

/-- R317: `v & ~(1 << b)`. -/
def resBit (b : Oct) (v : Byte) : Byte := v &&& ((1#8 <<< b.toNat) ^^^ 0xFF)

/-- R318: `v | (1 << b)`. -/
def setBit (b : Oct) (v : Byte) : Byte := v ||| (1#8 <<< b.toNat)

/-- R174, R175: the flags of LD A,I and LD A,R; C is unchanged and P/V is IFF2. -/
def ldAIrFlags (a : Byte) (iff2 : Bool) (fl : Flags) : Flags :=
  { s := a.getLsbD 7, z := a == 0, f5 := a.getLsbD 5, h := false, f3 := a.getLsbD 3,
    pv := iff2, n := false, c := fl.c }

/-- R319, R320, R361, R362: S, Z, F5, F3 and P/V = parity from a byte, H and N cleared, C unchanged. -/
def byteFlags (v : Byte) (fl : Flags) : Flags :=
  { logicFlags v false with c := fl.c }

/-- R216: the flags of a block transfer of the byte `v` with A and the decremented BC; S, Z and C are unchanged. -/
def blockMoveFlags (v a : Byte) (bc : Word) (fl : Flags) : Flags :=
  let k := v + a
  { fl with h := false, n := false, pv := bc != 0, f3 := k.getLsbD 3, f5 := k.getLsbD 1 }

/-- R220: the flags of a block search of the byte `v` with A and the decremented BC; C is unchanged. -/
def blockSearchFlags (v a : Byte) (bc : Word) (fl : Flags) : Flags :=
  let r := a - v
  let h := (a ^^^ v ^^^ r).getLsbD 4
  let k := r - carryByte h
  { s := r.getLsbD 7, z := r == 0, f5 := k.getLsbD 1, h := h, f3 := k.getLsbD 3,
    pv := bc != 0, n := true, c := fl.c }

/-- R366: the flags of block input and output from the decremented B; H, P/V and C are the free values of the step (D9, log 3). -/
def blockIoFlags (b : Byte) (draw : Nat) : Flags where
  s := b.getLsbD 7
  z := b == 0
  f5 := b.getLsbD 5
  h := Config.ioH draw
  f3 := b.getLsbD 3
  pv := Config.ioPV draw
  n := true
  c := Config.ioC draw

end Sys2Proof.Machine
end

