-- ==== Sys2Proof/Machine/Ops.lean ====
section
/-! DEFINITION. The named operations over memory and registers: the primitives of spec/00_scope.md R12-R15, the stack (spec/20_memory.md R66), the host's inputs, taking an interrupt and returning from one (spec/60_exceptions.md R401-R412, spec/48_jump_call_return.md R341, R342), the halt cycle (R130) and the fetch (R12, R141). -/

namespace Sys2Proof.Machine

/-! ## Bits and bytes -/

/-- The high byte of a 16-bit value (R9: `v[15:8]`). -/
def hiByte (w : Word) : Byte := w.extractLsb' 8 8

/-- The low byte of a 16-bit value (R9: `v[7:0]`). -/
def loByte (w : Word) : Byte := w.extractLsb' 0 8

/-- `hi:lo` (R9). -/
def word (hi lo : Byte) : Word := hi ++ lo

/-- `sext_8` (R11), as a 16-bit value. -/
def sext8 (d : Byte) : Word := d.signExtend 16

/-! ## Memory -/

/-- What an address that memory does not list reads as (assumption log 2). -/
def unlistedByte : Byte := 0x00

/-- The byte at an address of plain RAM. -/
def Memory.read : Memory → Nat → Byte
  | [], _ => unlistedByte
  | (k, v) :: m, a => if a = k then v else Memory.read m a

/-- Store a byte at an address of plain RAM, keeping the canonical form. -/
def Memory.write : Memory → Nat → Byte → Memory
  | [], a, v => if v = unlistedByte then [] else [(a, v)]
  | (k, w) :: m, a, v =>
    if a < k then (if v = unlistedByte then (k, w) :: m else (a, v) :: (k, w) :: m)
    else if a = k then (if v = unlistedByte then m else (a, v) :: m)
    else (k, w) :: Memory.write m a v

/-- The canonical form from the address `lo` on: addresses strictly rising and below 0x10000, no entry equal to the unlisted byte. -/
def Memory.wfFrom : Nat → Memory → Bool
  | _, [] => true
  | lo, (k, v) :: m => decide (lo ≤ k) && decide (k < 0x10000) && decide (v ≠ unlistedByte) && Memory.wfFrom (k + 1) m

/-- The canonical form of memory (log 2). -/
def Memory.wf (m : Memory) : Bool := Memory.wfFrom 0 m

/-- Whether an address lies in a range that the host keeps (D28). -/
def inRegion (g : Config.Region) (a : Word) : Bool := decide (g.base ≤ a.toNat) && decide (a.toNat < g.base + g.size)

/-- Whether an address is plain RAM under the parameter `MemMap` (D28; the default is all RAM). -/
def State.isRam (s : State) (a : Word) : Bool := !(s.params.nonRam.any (fun g => inRegion g a))

/-- `MemRead(a, 1)` (R13): the byte in RAM, or the host's answer, a free value, at an address that is not RAM (log 5). -/
def State.memRead (s : State) (acc : Config.Access) (a : Word) : Byte :=
  if s.isRam a then Memory.read s.mem a.toNat else Config.hostByte s.draw acc a

/-- `MemWrite(a, 1, v)` (R13); at an address that is not RAM the machine's memory is unchanged (log 5). -/
def State.memWrite (s : State) (a : Word) (v : Byte) : State :=
  if s.isRam a then { s with mem := Memory.write s.mem a.toNat v } else s

/-- `MemRead(a, 2)` (R13): low byte at `a`, then high byte at `a + 1`. -/
def State.memRead16 (s : State) (a : Word) : Word :=
  word (s.memRead .data1 (a + 1)) (s.memRead .data0 a)

/-- `MemWrite(a, 2, v)` (R13): low byte at `a`, then high byte at `a + 1`. -/
def State.memWrite16 (s : State) (a : Word) (v : Word) : State :=
  (s.memWrite a (loByte v)).memWrite (a + 1) (hiByte v)

/-! ## Registers -/

/-- The register a code r names in a bank (R102). -/
def Bank.get (k : Bank) (r : Reg8) : Byte :=
  match r with
  | .b => k.b
  | .c => k.c
  | .d => k.d
  | .e => k.e
  | .h => k.h
  | .l => k.l
  | .a => k.a

/-- Write the register a code r names in a bank (R102). -/
def Bank.set (k : Bank) (r : Reg8) (v : Byte) : Bank :=
  match r with
  | .b => { k with b := v }
  | .c => { k with c := v }
  | .d => { k with d := v }
  | .e => { k with e := v }
  | .h => { k with h := v }
  | .l => { k with l := v }
  | .a => { k with a := v }

/-- BC = B:C (R22). -/
def Bank.bc (k : Bank) : Word := word k.b k.c
/-- DE = D:E (R22). -/
def Bank.de (k : Bank) : Word := word k.d k.e
/-- HL = H:L (R22). -/
def Bank.hl (k : Bank) : Word := word k.h k.l
/-- AF = A:F (R23). -/
def Bank.af (k : Bank) : Word := word k.a k.f
/-- Write BC: both halves (R22). -/
def Bank.setBc (k : Bank) (v : Word) : Bank := { k with b := hiByte v, c := loByte v }
/-- Write DE: both halves (R22). -/
def Bank.setDe (k : Bank) (v : Word) : Bank := { k with d := hiByte v, e := loByte v }
/-- Write HL: both halves (R22). -/
def Bank.setHl (k : Bank) (v : Word) : Bank := { k with h := hiByte v, l := loByte v }
/-- Write AF: both halves (R23). -/
def Bank.setAf (k : Bank) (v : Word) : Bank := { k with a := hiByte v, f := loByte v }

/-- `x[c]` read (R10). -/
def State.reg (s : State) (r : Reg8) : Byte := s.main.get r
/-- `x[c] <- v` (R10). -/
def State.setReg (s : State) (r : Reg8) (v : Byte) : State := { s with main := s.main.set r v }
/-- Replace the main bank. -/
def State.setMain (s : State) (k : Bank) : State := { s with main := k }

/-- IX or IY (R25). -/
def State.idx (s : State) (x : Idx) : Word :=
  match x with
  | .ix => s.ix
  | .iy => s.iy

/-- Write IX or IY (R25). -/
def State.setIdx (s : State) (x : Idx) (v : Word) : State :=
  match x with
  | .ix => { s with ix := v }
  | .iy => { s with iy := v }

/-- The flags of F (R28). -/
def State.flags (s : State) : Flags := Flags.ofByte s.main.f
/-- Write all of F (R28). -/
def State.setFlags (s : State) (fl : Flags) : State := { s with main := { s.main with f := fl.toByte } }
/-- Write A and all of F. -/
def State.setAF (s : State) (r : Byte × Flags) : State := { s with main := { s.main with a := r.1, f := r.2.toByte } }

/-- `PC <- t` (R15). -/
def State.setPc (s : State) (v : Word) : State := { s with pc := v }

/-- The low seven bits of R with `k` added modulo 128, and bit 7 kept (R33). -/
def refreshAdd (r : Byte) (k : Nat) : Byte :=
  (r &&& 0x80) ||| BitVec.ofNat 8 (((r &&& 0x7F).toNat + k) % 128)

/-- `IncR(k)` (R15, R33). -/
def State.incR (s : State) (k : Nat) : State := { s with r := refreshAdd s.r k }

/-! ## Outputs -/

/-- An output event. -/
def State.emit (s : State) (e : Event) : State := { s with events := e :: s.events }
/-- `Notify(false, false, false, false)` (R15). -/
def State.notifyPlain (s : State) : State := s.emit (.notify ⟨false, false, false, false⟩)
/-- The record with `isReturn` as given (R144). -/
def State.notifyReturn (s : State) (taken : Bool) : State := s.emit (.notify ⟨taken, false, false, false⟩)
/-- The record of HALT (R144). -/
def State.notifyHalt (s : State) : State := s.emit (.notify ⟨false, true, false, false⟩)
/-- The record with `isLdSp` as given (R144, D21). -/
def State.notifyLdSp (s : State) (ldSp : Bool) : State := s.emit (.notify ⟨false, false, ldSp, false⟩)
/-- The record of EI and DI (R144). -/
def State.notifyEiDi (s : State) : State := s.emit (.notify ⟨false, false, false, true⟩)
/-- `Cycles(n)`: the host adds the T-state count to its counter (R130, R145). -/
def State.tick (s : State) (t : Nat) : State := { s with cycles := s.cycles + t }

/-- The value `PortRead(p)` answers in this step (R14, D27): a free value (log 3). -/
def State.portValue (s : State) (p : Byte) : Byte := Config.portIn s.draw p
/-- The event of `PortRead(p)` (R14). -/
def State.portRead (s : State) (p : Byte) : State := s.emit (.portRead p (s.portValue p))
/-- `PortWrite(p, v)` (R14). -/
def State.portWrite (s : State) (p v : Byte) : State := s.emit (.portWrite p v)

/-! ## The stack (R66) -/

/-- `Push16(v)`: the high byte at SP-1, then the low byte at SP-2 (D2). -/
def State.push16 (s : State) (v : Word) : State :=
  { (s.memWrite (s.sp - 1) (hiByte v)).memWrite (s.sp - 2) (loByte v) with sp := s.sp - 2 }

/-- The word `Pop16()` returns: low byte at SP, high byte at SP+1. -/
def State.stackTop (s : State) : Word := s.memRead16 s.sp

/-- The step of SP that `Pop16()` leaves. -/
def State.dropWord (s : State) : State := { s with sp := s.sp + 2 }

/-! ## Taking an interrupt and returning from one -/

/-- What every acceptance does to the engine (R405, R409): it ends the halt, clears the inhibit, counts R once and pushes PC.
Which enable flip-flops it clears and where PC goes follow in `acceptNmi` and `acceptInt`. -/
def State.takeInterrupt (s : State) : State :=
  ({ s with halted := false, intInhibit := .none }.incR 1).push16 s.pc

/-- R409: `AcceptNMI()`. IFF2 is unchanged (R409, R410, D34); R413 says otherwise of a nested NMI (log 21). -/
def acceptNmi (s : State) : State :=
  ((({ s with nmiReq := false, iff1 := false }).takeInterrupt).setPc 0x0066).tick 11

/-- R406: the data-bus bytes mode 0 admits, the RST opcodes. -/
def isRstByte (b : Byte) : Bool := (b &&& 0xC7) == 0xC7

/-- R405: both enable flip-flops cleared and the common part of the entry. -/
def State.takeInt (s : State) : State := ({ s with iff1 := false, iff2 := false }).takeInterrupt

/-- R406: mode 0, an RST opcode on the data bus (D18). -/
def enterMode0 (s : State) : State := ((s.takeInt).setPc (word 0x00 (s.busByte &&& 0x38))).tick 13

/-- R407: mode 1. -/
def enterMode1 (s : State) : State := ((s.takeInt).setPc 0x0038).tick 13

/-- R408: mode 2; the pointer at I:busByte is read after the push. -/
def enterMode2 (s : State) : State := ((s.takeInt).setPc ((s.takeInt).memRead16 (word s.i s.busByte))).tick 19

/-- R405 to R408: `AcceptINT()`. In mode 0 a byte that is no RST opcode has no next state (D18). -/
def acceptInt (s : State) : Host.Outcome State Fault Refusal :=
  match s.im with
  | .im0 => if isRstByte s.busByte then .next (enterMode0 s) else .refused .modeZeroBusByte
  | .im1 => .next (enterMode1 s)
  | .im2 => .next (enterMode2 s)

/-- R341, R342, R412: the return from an interrupt: PC from the stack and IFF1 from IFF2 (D23). -/
def State.returnFromInterrupt (s : State) : State :=
  { s.dropWord with pc := s.stackTop, iff1 := s.iff2 }

/-! ## A step's start -/

/-- The host's inputs at a step's start (R401, R402): the next entry of `inputs` sets the lines, and the step draws new free values (log 3, log 6). -/
def State.sample (s : State) : State :=
  match s.inputs with
  | [] => { s with draw := s.draw + 1 }
  | x :: xs =>
    { s with inputs := xs, nmiReq := s.nmiReq || x.raiseNmi, intReq := x.intReq, busByte := x.busByte, draw := s.draw + 1 }

/-- What the host loop does at a step boundary (R402, R404). -/
inductive Boundary where
  | nmi
  | int
  | run
  deriving DecidableEq, Repr

/-- R403: `MaskableEnabled()`. -/
def maskableEnabled (s : State) : Bool := s.iff1 && (s.intInhibit == .none)

/-- R402, R404: the prefix inhibit first, then NMI, then INT (D17). -/
def boundary (s : State) : Boundary :=
  if s.intInhibit == .afterPrefix then .run
  else if s.nmiReq then .nmi
  else if s.intReq && maskableEnabled s then .int
  else .run

/-- R130: the latch covers exactly one boundary. -/
def State.clearInhibit (s : State) : State := { s with intInhibit := .none }

/-- R130, R420: a halt cycle (D35). -/
def haltCycle (s : State) : State := (s.incR 1).tick 4

/-! ## Fetch (R12, R141) -/

/-- The instruction at PC, read from the same memory as data (R12, D3). A byte that the instruction does not have is read without effect (log 8). -/
def decodeAt (s : State) : Instr :=
  decode4 (s.memRead .fetch0 s.pc) (s.memRead .fetch1 (s.pc + 1)) (s.memRead .fetch2 (s.pc + 2)) (s.memRead .fetch3 (s.pc + 3))

/-- What the dispatcher and the fetches of `i` leave (R130 to R142): PC past the bytes fetched and R counted, before the operation runs. -/
def fetched (i : Instr) (s : State) : State :=
  { s with pc := s.pc + BitVec.ofNat 16 i.fetchCount, r := refreshAdd s.r i.refreshCount }

end Sys2Proof.Machine
end

