-- ==== Sys2Proof/Machine/Operands.lean ====
section
/-! DEFINITION. The operand forms (spec/30_encoding.md R113-R116, spec/44_alu8.md R230, spec/47_rotate_shift_bit.md R304) and the shared shapes of the meanings: an operand read, an operation, a result written, the T-states counted. -/

namespace Sys2Proof.Machine

/-- What a meaning answers. -/
abbrev Out := Host.Outcome State Fault Refusal

/-- The memory operands: (HL), (BC), (DE), (nn) and (XY+d). -/
inductive Ptr where
  | hl
  | bc
  | de
  | abs (nn : Word)
  | idx (x : Idx) (d : Byte)
  deriving DecidableEq, Repr

/-- The high or the low byte of an index register (R25). -/
inductive Half where
  | high
  | low
  deriving DecidableEq, Repr

/-- An 8-bit operand that can be read and written. -/
inductive Loc8 where
  | reg (r : Reg8)
  | mem (p : Ptr)
  | half (x : Idx) (h : Half)
  deriving DecidableEq, Repr

/-- An 8-bit source operand (R230). -/
inductive Src8 where
  | loc (l : Loc8)
  | imm (n : Byte)
  deriving DecidableEq, Repr

/-- A 16-bit register operand (R103, R104). -/
inductive Reg16 where
  | bc | de | hl | sp | af | ix | iy
  deriving DecidableEq, Repr

/-- R103 without a prefix. -/
def pairReg (p : RegPair) : Reg16 :=
  match p with
  | .bc => .bc
  | .de => .de
  | .hl => .hl
  | .sp => .sp

/-- R104 without a prefix. -/
def stackReg (p : StackPair) : Reg16 :=
  match p with
  | .bc => .bc
  | .de => .de
  | .hl => .hl
  | .af => .af

/-- IX or IY as a 16-bit operand. -/
def idxReg (x : Idx) : Reg16 :=
  match x with
  | .ix => .ix
  | .iy => .iy

/-- R103 after a DD or FD prefix: code 2 names the index register itself (R283). -/
def idxPairReg (p : IdxPair) (x : Idx) : Reg16 :=
  match p with
  | .bc => .bc
  | .de => .de
  | .xy => idxReg x
  | .sp => .sp

/-- Read a 16-bit register operand. -/
def State.get16 (s : State) (q : Reg16) : Word :=
  match q with
  | .bc => s.main.bc
  | .de => s.main.de
  | .hl => s.main.hl
  | .sp => s.sp
  | .af => s.main.af
  | .ix => s.ix
  | .iy => s.iy

/-- Write a 16-bit register operand. -/
def State.set16 (s : State) (q : Reg16) (v : Word) : State :=
  match q with
  | .bc => s.setMain (s.main.setBc v)
  | .de => s.setMain (s.main.setDe v)
  | .hl => s.setMain (s.main.setHl v)
  | .sp => { s with sp := v }
  | .af => s.setMain (s.main.setAf v)
  | .ix => { s with ix := v }
  | .iy => { s with iy := v }

/-- The effective address of a memory operand; (XY+d) adds the sign-extended displacement modulo 0x10000 (R114). -/
def State.addr (s : State) (p : Ptr) : Word :=
  match p with
  | .hl => s.main.hl
  | .bc => s.main.bc
  | .de => s.main.de
  | .abs nn => nn
  | .idx x d => s.idx x + sext8 d

/-- Read an 8-bit operand (R116). -/
def State.get8 (s : State) (l : Loc8) : Byte :=
  match l with
  | .reg r => s.reg r
  | .mem p => s.memRead .data0 (s.addr p)
  | .half x .high => hiByte (s.idx x)
  | .half x .low => loByte (s.idx x)

/-- Write an 8-bit operand (R116). -/
def State.set8 (s : State) (l : Loc8) (v : Byte) : State :=
  match l with
  | .reg r => s.setReg r v
  | .mem p => s.memWrite (s.addr p) v
  | .half x .high => s.setIdx x (word v (loByte (s.idx x)))
  | .half x .low => s.setIdx x (word (hiByte (s.idx x)) v)

/-- Read an 8-bit source operand (R230). -/
def State.src8 (s : State) (o : Src8) : Byte :=
  match o with
  | .loc l => s.get8 l
  | .imm n => n

/-! ## Shapes shared by the meanings -/

/-- R160: an 8-bit load. -/
def load8 (dst : Loc8) (src : Src8) (t : Nat) (s : State) : Out :=
  .next (((s.notifyPlain).set8 dst (s.src8 src)).tick t)

/-- R174, R175: A and the flags from a control register. -/
def loadAFromControl (v : Byte) (s : State) : Out :=
  .next (((s.notifyPlain).setAF (v, ldAIrFlags v s.iff2 s.flags)).tick 9)

/-- R190, R191: a 16-bit immediate load; `isLdSp` as given. -/
def load16Imm (dst : Reg16) (nn : Word) (ldSp : Bool) (t : Nat) (s : State) : Out :=
  .next (((s.notifyLdSp ldSp).set16 dst nn).tick t)

/-- R192 to R194: a 16-bit load from (nn). -/
def load16Mem (dst : Reg16) (nn : Word) (ldSp : Bool) (t : Nat) (s : State) : Out :=
  .next (((s.notifyLdSp ldSp).set16 dst (s.memRead16 nn)).tick t)

/-- R195 to R197: a 16-bit store to (nn). -/
def store16Mem (src : Reg16) (nn : Word) (t : Nat) (s : State) : Out :=
  .next (((s.notifyPlain).memWrite16 nn (s.get16 src)).tick t)

/-- R202, R203: SP from HL or an index register (D21). -/
def loadSp (src : Reg16) (t : Nat) (s : State) : Out :=
  .next (((s.notifyLdSp true).set16 .sp (s.get16 src)).tick t)

/-- R198, R200: PUSH. -/
def push (src : Reg16) (t : Nat) (s : State) : Out :=
  .next (((s.notifyPlain).push16 (s.get16 src)).tick t)

/-- R199, R201: POP. -/
def pop (dst : Reg16) (t : Nat) (s : State) : Out :=
  .next ((((s.notifyPlain).dropWord).set16 dst s.stackTop).tick t)

/-- R213, R214: a register exchanged with the word at SP: SP+1 is written, then SP (D2). -/
def exchangeStack (q : Reg16) (t : Nat) (s : State) : Out :=
  .next (((((s.notifyPlain).memWrite (s.sp + 1) (hiByte (s.get16 q))).memWrite s.sp (loByte (s.get16 q))).set16 q s.stackTop).tick t)

/-- The direction of a block instruction. -/
inductive Dir where
  | inc
  | dec
  deriving DecidableEq, Repr

/-- A pointer stepped in a direction, modulo 0x10000. -/
def Dir.step (d : Dir) (w : Word) : Word :=
  match d with
  | .inc => w + 1
  | .dec => w - 1

/-- R216, R217: the body of a block transfer. -/
def blockMove (d : Dir) (s : State) : State :=
  let v := s.memRead .data0 s.main.hl
  let bc := s.main.bc - 1
  let w := s.memWrite s.main.de v
  let k := ((w.main.setHl (d.step s.main.hl)).setDe (d.step s.main.de)).setBc bc
  (w.setMain k).setFlags (blockMoveFlags v s.main.a bc s.flags)

/-- R220, R221: the body of a block search. -/
def blockSearch (d : Dir) (s : State) : State :=
  let v := s.memRead .data0 s.main.hl
  let bc := s.main.bc - 1
  let k := (s.main.setHl (d.step s.main.hl)).setBc bc
  (s.setMain k).setFlags (blockSearchFlags v s.main.a bc s.flags)

/-- R367, R368: the body of a block input: the port read, the store, the pointer, then B and the flags. -/
def blockIn (d : Dir) (s : State) : State :=
  let v := s.portValue s.main.c
  let w := (s.portRead s.main.c).memWrite s.main.hl v
  let b := s.main.b - 1
  (w.setMain ((w.main.setHl (d.step s.main.hl)).set .b b)).setFlags (blockIoFlags b s.draw)

/-- R371, R372: the body of a block output: the memory read, B, the port write, the pointer, then the flags. -/
def blockOut (d : Dir) (s : State) : State :=
  let v := s.memRead .data0 s.main.hl
  let b := s.main.b - 1
  let w := s.portWrite s.main.c v
  (w.setMain ((w.main.setHl (d.step s.main.hl)).set .b b)).setFlags (blockIoFlags b s.draw)

/-- A single-step block instruction: 16 T-states. -/
def blockOnce (body : State → State) (s : State) : Out := .next ((body s.notifyPlain).tick 16)

/-- R215: the body, then PC back to the ED byte and 21 T-states while the condition holds, else 16. -/
def blockRepeat (body : State → State) (again : State → Bool) (s : State) : Out :=
  let t := body s.notifyPlain
  .next (if again t then (t.setPc (t.pc - 2)).tick 21 else t.tick 16)

/-- R215: `BC != 0`. -/
def bcNonzero (s : State) : Bool := s.main.bc != 0
/-- R215: `BC != 0 and F.Z == 0`. -/
def bcNonzeroNotFound (s : State) : Bool := (s.main.bc != 0) && !s.flags.z
/-- R215: `B != 0`. -/
def bNonzero (s : State) : Bool := s.main.b != 0

/-- R237 to R244: a two-operand ALU instruction. -/
def alu (op : AluOp) (src : Src8) (t : Nat) (s : State) : Out :=
  .next (((s.notifyPlain).setAF (aluApply op s.main.a (s.src8 src) s.flags)).tick t)

/-- R245 to R250: an operation on one 8-bit operand, the result written back and the flags set. -/
def modify8 (f : Byte → Flags → Byte × Flags) (l : Loc8) (t : Nat) (s : State) : Out :=
  let r := f (s.get8 l) s.flags
  .next ((((s.notifyPlain).set8 l r.1).setFlags r.2).tick t)

/-- R280, R283: a 16-bit ADD into `dst`. -/
def addPair (dst src : Reg16) (t : Nat) (s : State) : Out :=
  let r := add16 (s.get16 dst) (s.get16 src) s.flags
  .next ((((s.notifyPlain).set16 dst r.1).setFlags r.2).tick t)

/-- R281, R282: a 16-bit sum or difference with carry into HL. -/
def carryPair (f : Word → Word → Bool → Word × Flags) (src : Reg16) (s : State) : Out :=
  let r := f s.main.hl (s.get16 src) s.flags.c
  .next ((((s.notifyPlain).set16 .hl r.1).setFlags r.2).tick 15)

/-- R284 to R287: a 16-bit register stepped; no flag is written. -/
def stepPair (d : Dir) (q : Reg16) (t : Nat) (s : State) : Out :=
  .next (((s.notifyPlain).set16 q (d.step (s.get16 q))).tick t)

/-- R300 to R303: an accumulator rotate. -/
def rotateA (k : Rot) (s : State) : Out :=
  let r := rotApply k s.main.a s.flags.c
  .next (((s.notifyPlain).setAF (r.1, accRotFlags r.1 r.2 s.flags)).tick 4)

/-- R305: a rotate or shift as an operation on a byte and the flags. -/
def rotOp (k : Rot) (v : Byte) (fl : Flags) : Byte × Flags :=
  let r := rotApply k v fl.c
  (r.1, rotFlags r.1 r.2)

/-- R304: a rotate or shift of a register or of (HL). -/
def rotate (k : Rot) (l : Loc8) (t : Nat) (s : State) : Out := modify8 (rotOp k) l t s

/-- R317, R318 through R304: a byte operation that writes no flag. -/
def change8 (f : Byte → Byte) (l : Loc8) (t : Nat) (s : State) : Out :=
  .next (((s.notifyPlain).set8 l (f (s.get8 l))).tick t)

/-- R304: the register-copy forms have no next state when `UNDOC_XYCB` is `refuse` (D7). -/
def ifCopyAdmitted (s : State) (o : Out) : Out :=
  match s.params.undocXYCB with
  | .admitted => o
  | .refused => .refused .undocXYCBRefused

/-- R304: a rotate or shift of (XY+d) whose result is also copied to a register after the memory write. -/
def rotateCopy (k : Rot) (x : Idx) (d : Byte) (r : Reg8) (s : State) : Out :=
  let v := rotOp k (s.get8 (.mem (.idx x d))) s.flags
  ifCopyAdmitted s (.next (((((s.notifyPlain).set8 (.mem (.idx x d)) v.1).setReg r v.1).setFlags v.2).tick 23))

/-- R304, R317, R318: RES or SET of (XY+d) whose result is also copied to a register after the memory write. -/
def changeCopy (f : Byte → Byte) (x : Idx) (d : Byte) (r : Reg8) (s : State) : Out :=
  let v := f (s.get8 (.mem (.idx x d)))
  ifCopyAdmitted s (.next ((((s.notifyPlain).set8 (.mem (.idx x d)) v).setReg r v).tick 23))

/-- R314 to R316: BIT b on an operand; nothing is written but the flags. -/
def testBit (b : Oct) (l : Loc8) (f5 f3 : Bool) (t : Nat) (s : State) : Out :=
  .next (((s.notifyPlain).setFlags (bitFlags b (s.get8 l) f5 f3 s.flags)).tick t)

/-- R319, R320: a nibble rotate between A and (HL): the new A and the new byte. -/
def nibbleRotate (f : Byte → Byte → Byte × Byte) (s : State) : Out :=
  let r := f s.main.a (s.memRead .data0 s.main.hl)
  .next ((((s.notifyPlain).memWrite s.main.hl r.2).setAF (r.1, byteFlags r.1 s.flags)).tick 18)

/-- R330, R335, R336: a jump. -/
def jump (v : Word) (t : Nat) (s : State) : Out := .next (((s.notifyPlain).setPc v).tick t)

/-- R332, R333, R334: a relative jump if `taken`. -/
def jumpRel (taken : Bool) (e : Byte) (t u : Nat) (s : State) : Out :=
  .next (if taken then ((s.notifyPlain).setPc (s.pc + sext8 e)).tick t else (s.notifyPlain).tick u)

/-- R337, R343: PC pushed, then the jump. -/
def call (v : Word) (t : Nat) (s : State) : Out :=
  .next ((((s.notifyPlain).push16 s.pc).setPc v).tick t)

/-- R339: PC from the stack. -/
def ret (t : Nat) (s : State) : Out :=
  .next ((((s.notifyReturn true).dropWord).setPc s.stackTop).tick t)

/-- R341, R342. -/
def retInt (s : State) : Out := .next (((s.notifyReturn true).returnFromInterrupt).tick 14)

/-- R361: a port read into a register; the flags follow the byte. -/
def inputReg (r : Reg8) (s : State) : Out :=
  let v := s.portValue s.main.c
  .next (((((s.notifyPlain).portRead s.main.c).setReg r v).setFlags (byteFlags v s.flags)).tick 12)

/-- R364, R365: a port write to port C. -/
def outputC (v : Byte) (s : State) : Out := .next (((s.notifyPlain).portWrite s.main.c v).tick 12)

/-- R268 to R270: `SetIM(m)`. -/
def setIntMode (m : IntMode) (s : State) : Out := .next ({ s.notifyPlain with im := m }.tick 8)

/-- R135, R271, R272: no operation. -/
def noOperation (t : Nat) (s : State) : Out := .next ((s.notifyPlain).tick t)

/-- R139: the fallback of a wasted DD/FD prefix: PC stepped back over the byte that was consumed, R taken back by one under
`FALLBACK_R = silicon` (D5), and the inhibit set (D16). -/
def wastedPrefix (s : State) : Out :=
  let r := match s.params.fallbackR with
    | .source => s.r
    | .silicon => refreshAdd s.r 127
  .next ({ s.notifyPlain with pc := s.pc - 1, r := r, intInhibit := .afterPrefix }.tick 4)

end Sys2Proof.Machine
end

