-- ==== Sys2Proof/Machine/Alu16.lean ====
section
/-! DEFINITION. The 16-bit arithmetic group (spec/46_alu16.md): one meaning for each row. A meaning runs after the step has moved PC past the bytes fetched and counted R (`fetched`). -/

namespace Sys2Proof.Machine

/-- `ADD HL,rp` (R280). -/
def execAddHLRp (rp : RegPair) (s : State) : Out :=
  addPair .hl (pairReg rp) 11 s

/-- `INC rp` (R284). -/
def execIncRp (rp : RegPair) (s : State) : Out :=
  stepPair .inc (pairReg rp) 6 s

/-- `DEC rp` (R285). -/
def execDecRp (rp : RegPair) (s : State) : Out :=
  stepPair .dec (pairReg rp) 6 s

/-- `SBC HL,rp` (R282). -/
def execSbcHLRp (rp : RegPair) (s : State) : Out :=
  carryPair sbc16 (pairReg rp) s

/-- `ADC HL,rp` (R281). -/
def execAdcHLRp (rp : RegPair) (s : State) : Out :=
  carryPair adc16 (pairReg rp) s

/-- `ADD IX,pp` (R283). -/
def execAddIXPp (pp : IdxPair) (s : State) : Out :=
  addPair .ix (idxPairReg pp .ix) 15 s

/-- `INC IX` (R286). -/
def execIncIX (s : State) : Out :=
  stepPair .inc .ix 10 s

/-- `DEC IX` (R287). -/
def execDecIX (s : State) : Out :=
  stepPair .dec .ix 10 s

/-- `ADD IY,pp` (R283). -/
def execAddIYPp (pp : IdxPair) (s : State) : Out :=
  addPair .iy (idxPairReg pp .iy) 15 s

/-- `INC IY` (R286). -/
def execIncIY (s : State) : Out :=
  stepPair .inc .iy 10 s

/-- `DEC IY` (R287). -/
def execDecIY (s : State) : Out :=
  stepPair .dec .iy 10 s

end Sys2Proof.Machine
end

