-- ==== Sys2Proof/Machine/Alu8.lean ====
section
/-! DEFINITION. The 8-bit arithmetic and logic group (spec/44_alu8.md): one meaning for each row. A meaning runs after the step has moved PC past the bytes fetched and counted R (`fetched`). -/

namespace Sys2Proof.Machine

/-- `INC (HL)` (R246). -/
def execIncIndHL (s : State) : Out :=
  modify8 inc8 (.mem .hl) 11 s

/-- `INC r` (R245). -/
def execIncR (r : Reg8) (s : State) : Out :=
  modify8 inc8 (.reg r) 4 s

/-- `DEC (HL)` (R249). -/
def execDecIndHL (s : State) : Out :=
  modify8 dec8 (.mem .hl) 11 s

/-- `DEC r` (R248). -/
def execDecR (r : Reg8) (s : State) : Out :=
  modify8 dec8 (.reg r) 4 s

/-- `ADD A,(HL)` (R237). -/
def execAddAIndHL (s : State) : Out :=
  alu .add (.loc (.mem .hl)) 7 s

/-- `ADD A,r` (R237). -/
def execAddAR (r : Reg8) (s : State) : Out :=
  alu .add (.loc (.reg r)) 4 s

/-- `ADC A,(HL)` (R238). -/
def execAdcAIndHL (s : State) : Out :=
  alu .adc (.loc (.mem .hl)) 7 s

/-- `ADC A,r` (R238). -/
def execAdcAR (r : Reg8) (s : State) : Out :=
  alu .adc (.loc (.reg r)) 4 s

/-- `SUB (HL)` (R239). -/
def execSubIndHL (s : State) : Out :=
  alu .sub (.loc (.mem .hl)) 7 s

/-- `SUB r` (R239). -/
def execSubR (r : Reg8) (s : State) : Out :=
  alu .sub (.loc (.reg r)) 4 s

/-- `SBC A,(HL)` (R240). -/
def execSbcAIndHL (s : State) : Out :=
  alu .sbc (.loc (.mem .hl)) 7 s

/-- `SBC A,r` (R240). -/
def execSbcAR (r : Reg8) (s : State) : Out :=
  alu .sbc (.loc (.reg r)) 4 s

/-- `AND (HL)` (R241). -/
def execAndIndHL (s : State) : Out :=
  alu .and (.loc (.mem .hl)) 7 s

/-- `AND r` (R241). -/
def execAndR (r : Reg8) (s : State) : Out :=
  alu .and (.loc (.reg r)) 4 s

/-- `XOR (HL)` (R242). -/
def execXorIndHL (s : State) : Out :=
  alu .xor (.loc (.mem .hl)) 7 s

/-- `XOR r` (R242). -/
def execXorR (r : Reg8) (s : State) : Out :=
  alu .xor (.loc (.reg r)) 4 s

/-- `OR (HL)` (R243). -/
def execOrIndHL (s : State) : Out :=
  alu .or (.loc (.mem .hl)) 7 s

/-- `OR r` (R243). -/
def execOrR (r : Reg8) (s : State) : Out :=
  alu .or (.loc (.reg r)) 4 s

/-- `CP (HL)` (R244). -/
def execCpIndHL (s : State) : Out :=
  alu .cp (.loc (.mem .hl)) 7 s

/-- `CP r` (R244). -/
def execCpR (r : Reg8) (s : State) : Out :=
  alu .cp (.loc (.reg r)) 4 s

/-- `ADD A,n` (R237). -/
def execAddAN (n : Byte) (s : State) : Out :=
  alu .add (.imm n) 7 s

/-- `ADC A,n` (R238). -/
def execAdcAN (n : Byte) (s : State) : Out :=
  alu .adc (.imm n) 7 s

/-- `SUB n` (R239). -/
def execSubN (n : Byte) (s : State) : Out :=
  alu .sub (.imm n) 7 s

/-- `SBC A,n` (R240). -/
def execSbcAN (n : Byte) (s : State) : Out :=
  alu .sbc (.imm n) 7 s

/-- `AND n` (R241). -/
def execAndN (n : Byte) (s : State) : Out :=
  alu .and (.imm n) 7 s

/-- `XOR n` (R242). -/
def execXorN (n : Byte) (s : State) : Out :=
  alu .xor (.imm n) 7 s

/-- `OR n` (R243). -/
def execOrN (n : Byte) (s : State) : Out :=
  alu .or (.imm n) 7 s

/-- `CP n` (R244). -/
def execCpN (n : Byte) (s : State) : Out :=
  alu .cp (.imm n) 7 s

/-- `INC IXH` (R245). -/
def execIncIXH (s : State) : Out :=
  modify8 inc8 (.half .ix .high) 8 s

/-- `INC IXL` (R245). -/
def execIncIXL (s : State) : Out :=
  modify8 inc8 (.half .ix .low) 8 s

/-- `DEC IXH` (R248). -/
def execDecIXH (s : State) : Out :=
  modify8 dec8 (.half .ix .high) 8 s

/-- `DEC IXL` (R248). -/
def execDecIXL (s : State) : Out :=
  modify8 dec8 (.half .ix .low) 8 s

/-- `INC (IX+d)` (R247). -/
def execIncIXd (d : Byte) (s : State) : Out :=
  modify8 inc8 (.mem (.idx .ix d)) 23 s

/-- `DEC (IX+d)` (R250). -/
def execDecIXd (d : Byte) (s : State) : Out :=
  modify8 dec8 (.mem (.idx .ix d)) 23 s

/-- `ADD A,IXH` (R237). -/
def execAddAIXH (s : State) : Out :=
  alu .add (.loc (.half .ix .high)) 8 s

/-- `ADD A,IXL` (R237). -/
def execAddAIXL (s : State) : Out :=
  alu .add (.loc (.half .ix .low)) 8 s

/-- `ADD A,(IX+d)` (R237). -/
def execAddAIXd (d : Byte) (s : State) : Out :=
  alu .add (.loc (.mem (.idx .ix d))) 19 s

/-- `ADC A,IXH` (R238). -/
def execAdcAIXH (s : State) : Out :=
  alu .adc (.loc (.half .ix .high)) 8 s

/-- `ADC A,IXL` (R238). -/
def execAdcAIXL (s : State) : Out :=
  alu .adc (.loc (.half .ix .low)) 8 s

/-- `ADC A,(IX+d)` (R238). -/
def execAdcAIXd (d : Byte) (s : State) : Out :=
  alu .adc (.loc (.mem (.idx .ix d))) 19 s

/-- `SUB IXH` (R239). -/
def execSubIXH (s : State) : Out :=
  alu .sub (.loc (.half .ix .high)) 8 s

/-- `SUB IXL` (R239). -/
def execSubIXL (s : State) : Out :=
  alu .sub (.loc (.half .ix .low)) 8 s

/-- `SUB (IX+d)` (R239). -/
def execSubIXd (d : Byte) (s : State) : Out :=
  alu .sub (.loc (.mem (.idx .ix d))) 19 s

/-- `SBC A,IXH` (R240). -/
def execSbcAIXH (s : State) : Out :=
  alu .sbc (.loc (.half .ix .high)) 8 s

/-- `SBC A,IXL` (R240). -/
def execSbcAIXL (s : State) : Out :=
  alu .sbc (.loc (.half .ix .low)) 8 s

/-- `SBC A,(IX+d)` (R240). -/
def execSbcAIXd (d : Byte) (s : State) : Out :=
  alu .sbc (.loc (.mem (.idx .ix d))) 19 s

/-- `AND IXH` (R241). -/
def execAndIXH (s : State) : Out :=
  alu .and (.loc (.half .ix .high)) 8 s

/-- `AND IXL` (R241). -/
def execAndIXL (s : State) : Out :=
  alu .and (.loc (.half .ix .low)) 8 s

/-- `AND (IX+d)` (R241). -/
def execAndIXd (d : Byte) (s : State) : Out :=
  alu .and (.loc (.mem (.idx .ix d))) 19 s

/-- `XOR IXH` (R242). -/
def execXorIXH (s : State) : Out :=
  alu .xor (.loc (.half .ix .high)) 8 s

/-- `XOR IXL` (R242). -/
def execXorIXL (s : State) : Out :=
  alu .xor (.loc (.half .ix .low)) 8 s

/-- `XOR (IX+d)` (R242). -/
def execXorIXd (d : Byte) (s : State) : Out :=
  alu .xor (.loc (.mem (.idx .ix d))) 19 s

/-- `OR IXH` (R243). -/
def execOrIXH (s : State) : Out :=
  alu .or (.loc (.half .ix .high)) 8 s

/-- `OR IXL` (R243). -/
def execOrIXL (s : State) : Out :=
  alu .or (.loc (.half .ix .low)) 8 s

/-- `OR (IX+d)` (R243). -/
def execOrIXd (d : Byte) (s : State) : Out :=
  alu .or (.loc (.mem (.idx .ix d))) 19 s

/-- `CP IXH` (R244). -/
def execCpIXH (s : State) : Out :=
  alu .cp (.loc (.half .ix .high)) 8 s

/-- `CP IXL` (R244). -/
def execCpIXL (s : State) : Out :=
  alu .cp (.loc (.half .ix .low)) 8 s

/-- `CP (IX+d)` (R244). -/
def execCpIXd (d : Byte) (s : State) : Out :=
  alu .cp (.loc (.mem (.idx .ix d))) 19 s

/-- `INC IYH` (R245). -/
def execIncIYH (s : State) : Out :=
  modify8 inc8 (.half .iy .high) 8 s

/-- `INC IYL` (R245). -/
def execIncIYL (s : State) : Out :=
  modify8 inc8 (.half .iy .low) 8 s

/-- `DEC IYH` (R248). -/
def execDecIYH (s : State) : Out :=
  modify8 dec8 (.half .iy .high) 8 s

/-- `DEC IYL` (R248). -/
def execDecIYL (s : State) : Out :=
  modify8 dec8 (.half .iy .low) 8 s

/-- `INC (IY+d)` (R247). -/
def execIncIYd (d : Byte) (s : State) : Out :=
  modify8 inc8 (.mem (.idx .iy d)) 23 s

/-- `DEC (IY+d)` (R250). -/
def execDecIYd (d : Byte) (s : State) : Out :=
  modify8 dec8 (.mem (.idx .iy d)) 23 s

/-- `ADD A,IYH` (R237). -/
def execAddAIYH (s : State) : Out :=
  alu .add (.loc (.half .iy .high)) 8 s

/-- `ADD A,IYL` (R237). -/
def execAddAIYL (s : State) : Out :=
  alu .add (.loc (.half .iy .low)) 8 s

/-- `ADD A,(IY+d)` (R237). -/
def execAddAIYd (d : Byte) (s : State) : Out :=
  alu .add (.loc (.mem (.idx .iy d))) 19 s

/-- `ADC A,IYH` (R238). -/
def execAdcAIYH (s : State) : Out :=
  alu .adc (.loc (.half .iy .high)) 8 s

/-- `ADC A,IYL` (R238). -/
def execAdcAIYL (s : State) : Out :=
  alu .adc (.loc (.half .iy .low)) 8 s

/-- `ADC A,(IY+d)` (R238). -/
def execAdcAIYd (d : Byte) (s : State) : Out :=
  alu .adc (.loc (.mem (.idx .iy d))) 19 s

/-- `SUB IYH` (R239). -/
def execSubIYH (s : State) : Out :=
  alu .sub (.loc (.half .iy .high)) 8 s

/-- `SUB IYL` (R239). -/
def execSubIYL (s : State) : Out :=
  alu .sub (.loc (.half .iy .low)) 8 s

/-- `SUB (IY+d)` (R239). -/
def execSubIYd (d : Byte) (s : State) : Out :=
  alu .sub (.loc (.mem (.idx .iy d))) 19 s

/-- `SBC A,IYH` (R240). -/
def execSbcAIYH (s : State) : Out :=
  alu .sbc (.loc (.half .iy .high)) 8 s

/-- `SBC A,IYL` (R240). -/
def execSbcAIYL (s : State) : Out :=
  alu .sbc (.loc (.half .iy .low)) 8 s

/-- `SBC A,(IY+d)` (R240). -/
def execSbcAIYd (d : Byte) (s : State) : Out :=
  alu .sbc (.loc (.mem (.idx .iy d))) 19 s

/-- `AND IYH` (R241). -/
def execAndIYH (s : State) : Out :=
  alu .and (.loc (.half .iy .high)) 8 s

/-- `AND IYL` (R241). -/
def execAndIYL (s : State) : Out :=
  alu .and (.loc (.half .iy .low)) 8 s

/-- `AND (IY+d)` (R241). -/
def execAndIYd (d : Byte) (s : State) : Out :=
  alu .and (.loc (.mem (.idx .iy d))) 19 s

/-- `XOR IYH` (R242). -/
def execXorIYH (s : State) : Out :=
  alu .xor (.loc (.half .iy .high)) 8 s

/-- `XOR IYL` (R242). -/
def execXorIYL (s : State) : Out :=
  alu .xor (.loc (.half .iy .low)) 8 s

/-- `XOR (IY+d)` (R242). -/
def execXorIYd (d : Byte) (s : State) : Out :=
  alu .xor (.loc (.mem (.idx .iy d))) 19 s

/-- `OR IYH` (R243). -/
def execOrIYH (s : State) : Out :=
  alu .or (.loc (.half .iy .high)) 8 s

/-- `OR IYL` (R243). -/
def execOrIYL (s : State) : Out :=
  alu .or (.loc (.half .iy .low)) 8 s

/-- `OR (IY+d)` (R243). -/
def execOrIYd (d : Byte) (s : State) : Out :=
  alu .or (.loc (.mem (.idx .iy d))) 19 s

/-- `CP IYH` (R244). -/
def execCpIYH (s : State) : Out :=
  alu .cp (.loc (.half .iy .high)) 8 s

/-- `CP IYL` (R244). -/
def execCpIYL (s : State) : Out :=
  alu .cp (.loc (.half .iy .low)) 8 s

/-- `CP (IY+d)` (R244). -/
def execCpIYd (d : Byte) (s : State) : Out :=
  alu .cp (.loc (.mem (.idx .iy d))) 19 s

end Sys2Proof.Machine
end

