-- ==== Sys2Proof/Machine/Control.lean ====
section
/-! DEFINITION. The general-purpose arithmetic and CPU control group (spec/45_cpu_control.md): one meaning for each row. A meaning runs after the step has moved PC past the bytes fetched and counted R (`fetched`). -/

namespace Sys2Proof.Machine

/-- `NOP` (R271). -/
def execNop (s : State) : Out :=
  noOperation 4 s

/-- `DAA` (R260). -/
def execDaa (s : State) : Out :=
  .next (((s.notifyPlain).setAF (Machine.daa s.main.a s.flags)).tick 4)

/-- `CPL` (R261). -/
def execCpl (s : State) : Out :=
  .next (((s.notifyPlain).setAF (Machine.cpl s.main.a s.flags)).tick 4)

/-- `SCF` (R264). -/
def execScf (s : State) : Out :=
  .next (((s.notifyPlain).setFlags (Machine.scf s.main.a s.flags)).tick 4)

/-- `CCF` (R263). -/
def execCcf (s : State) : Out :=
  .next (((s.notifyPlain).setFlags (Machine.ccf s.main.a s.flags)).tick 4)

/-- `HALT` (R265). -/
def execHalt (s : State) : Out :=
  .next ({ s.notifyHalt with halted := true }.tick 4)

/-- `DI` (R266). -/
def execDi (s : State) : Out :=
  .next ({ s.notifyEiDi with iff1 := false, iff2 := false }.tick 4)

/-- `EI` (R267). -/
def execEi (s : State) : Out :=
  .next ({ s.notifyEiDi with iff1 := true, iff2 := true, intInhibit := .afterEi }.tick 4)

/-- `NEG` (R262). -/
def execNeg (_y : Oct) (s : State) : Out :=
  .next (((s.notifyPlain).setAF (sub8 0 s.main.a false)).tick 8)

/-- `IM 0` (R268). -/
def execIm0 (_y : Oct) (s : State) : Out :=
  setIntMode .im0 s

/-- `IM 1` (R269). -/
def execIm1 (_y : Oct) (s : State) : Out :=
  setIntMode .im1 s

/-- `IM 2` (R270). -/
def execIm2 (_y : Oct) (s : State) : Out :=
  setIntMode .im2 s

/-- `ED no-operation` (R272). -/
def execEdNop (_y : Oct) (s : State) : Out :=
  noOperation 8 s

end Sys2Proof.Machine
end

