-- ==== Sys2Proof/Machine/Exchange.lean ====
section
/-! DEFINITION. The exchange, block transfer and block search group (spec/43_exchange_block.md): one meaning for each row. A meaning runs after the step has moved PC past the bytes fetched and counted R (`fetched`). -/

namespace Sys2Proof.Machine

/-- `EX AF,AF'` (R211). -/
def execExAFAF (s : State) : Out :=
  .next ({ s.notifyPlain with main := { s.main with a := s.alt.a, f := s.alt.f }, alt := { s.alt with a := s.main.a, f := s.main.f } }.tick 4)

/-- `EXX` (R212). -/
def execExx (s : State) : Out :=
  .next ({ s.notifyPlain with main := { s.alt with a := s.main.a, f := s.main.f }, alt := { s.main with a := s.alt.a, f := s.alt.f } }.tick 4)

/-- `EX (SP),HL` (R213). -/
def execExIndSPHL (s : State) : Out :=
  exchangeStack .hl 19 s

/-- `EX DE,HL` (R210). -/
def execExDEHL (s : State) : Out :=
  .next (((s.notifyPlain).setMain ((s.main.setDe s.main.hl).setHl s.main.de)).tick 4)

/-- `LDI` (R216). -/
def execLdi (s : State) : Out :=
  blockOnce (blockMove .inc) s

/-- `CPI` (R220). -/
def execCpi (s : State) : Out :=
  blockOnce (blockSearch .inc) s

/-- `LDD` (R217). -/
def execLdd (s : State) : Out :=
  blockOnce (blockMove .dec) s

/-- `CPD` (R221). -/
def execCpd (s : State) : Out :=
  blockOnce (blockSearch .dec) s

/-- `LDIR` (R218). -/
def execLdir (s : State) : Out :=
  blockRepeat (blockMove .inc) bcNonzero s

/-- `CPIR` (R222). -/
def execCpir (s : State) : Out :=
  blockRepeat (blockSearch .inc) bcNonzeroNotFound s

/-- `LDDR` (R219). -/
def execLddr (s : State) : Out :=
  blockRepeat (blockMove .dec) bcNonzero s

/-- `CPDR` (R223). -/
def execCpdr (s : State) : Out :=
  blockRepeat (blockSearch .dec) bcNonzeroNotFound s

/-- `EX (SP),IX` (R214). -/
def execExIndSPIX (s : State) : Out :=
  exchangeStack .ix 23 s

/-- `EX (SP),IY` (R214). -/
def execExIndSPIY (s : State) : Out :=
  exchangeStack .iy 23 s

end Sys2Proof.Machine
end

