-- ==== Sys2Proof/Machine/Fallback.lean ====
section
/-! DEFINITION. The unsupported-ED hook and the wasted DD/FD prefixes (spec/40_dispatch.md): one meaning for each row. A meaning runs after the step has moved PC past the bytes fetched and counted R (`fetched`). -/

namespace Sys2Proof.Machine

/-- `unsupported ED (hook)` (R135). The hook is fixed to its default (D20, log 14). -/
def execUnsupportedED00 (_op : Byte) (s : State) : Out :=
  noOperation 8 s

/-- `unsupported ED (hook)` (R135). The hook is fixed to its default (D20, log 14). -/
def execUnsupportedED80 (_op : Byte) (s : State) : Out :=
  noOperation 8 s

/-- `unsupported ED (hook)` (R135). The hook is fixed to its default (D20, log 14). -/
def execUnsupportedEDA4 (_op : Byte) (s : State) : Out :=
  noOperation 8 s

/-- `unsupported ED (hook)` (R135). The hook is fixed to its default (D20, log 14). -/
def execUnsupportedEDC0 (_op : Byte) (s : State) : Out :=
  noOperation 8 s

/-- `wasted DD prefix` (R139). -/
def execWastedDD (s : State) : Out :=
  wastedPrefix s

/-- `wasted FD prefix` (R139). -/
def execWastedFD (s : State) : Out :=
  wastedPrefix s

end Sys2Proof.Machine
end

