-- ==== Sys2Proof/Machine/Io.lean ====
section
/-! DEFINITION. The input and output group (spec/49_io.md): one meaning for each row. A meaning runs after the step has moved PC past the bytes fetched and counted R (`fetched`). -/

namespace Sys2Proof.Machine

/-- `OUT (n),A` (R363). -/
def execOutPortNA (n : Byte) (s : State) : Out :=
  .next (((s.notifyPlain).portWrite n s.main.a).tick 11)

/-- `IN A,(n)` (R360). -/
def execInAPortN (n : Byte) (s : State) : Out :=
  .next ((((s.notifyPlain).portRead n).setReg .a (s.portValue n)).tick 11)

/-- `INI` (R367). -/
def execIni (s : State) : Out :=
  blockOnce (blockIn .inc) s

/-- `OUTI` (R371). -/
def execOuti (s : State) : Out :=
  blockOnce (blockOut .inc) s

/-- `IND` (R368). -/
def execInd (s : State) : Out :=
  blockOnce (blockIn .dec) s

/-- `OUTD` (R372). -/
def execOutd (s : State) : Out :=
  blockOnce (blockOut .dec) s

/-- `INIR` (R369). -/
def execInir (s : State) : Out :=
  blockRepeat (blockIn .inc) bNonzero s

/-- `OTIR` (R373). -/
def execOtir (s : State) : Out :=
  blockRepeat (blockOut .inc) bNonzero s

/-- `INDR` (R370). -/
def execIndr (s : State) : Out :=
  blockRepeat (blockIn .dec) bNonzero s

/-- `OTDR` (R374). -/
def execOtdr (s : State) : Out :=
  blockRepeat (blockOut .dec) bNonzero s

/-- `IN F,(C)` (R362). -/
def execInFPortC (s : State) : Out :=
  .next ((((s.notifyPlain).portRead s.main.c).setFlags (byteFlags (s.portValue s.main.c) s.flags)).tick 12)

/-- `IN r,(C)` (R361). -/
def execInRPortC (r : Reg8) (s : State) : Out :=
  inputReg r s

/-- `OUT (C),0` (R365). -/
def execOutPortC0 (s : State) : Out :=
  outputC 0x00 s

/-- `OUT (C),r` (R364). -/
def execOutPortCR (r : Reg8) (s : State) : Out :=
  outputC (s.reg r) s

end Sys2Proof.Machine
end

