-- ==== Sys2Proof/Machine/Jump.lean ====
section
/-! DEFINITION. The jump, call and return group (spec/48_jump_call_return.md): one meaning for each row. A meaning runs after the step has moved PC past the bytes fetched and counted R (`fetched`). -/

namespace Sys2Proof.Machine

/-- `DJNZ e` (R334). -/
def execDjnz (e : Byte) (s : State) : Out :=
  jumpRel (s.main.b - 1 != 0) e 13 8 (s.setReg .b (s.main.b - 1))

/-- `JR e` (R332). -/
def execJr (e : Byte) (s : State) : Out :=
  jumpRel true e 12 12 s

/-- `JR cc,e` (R333). -/
def execJrCc (cc : JrCond) (e : Byte) (s : State) : Out :=
  jumpRel (condHolds cc.cond s.flags) e 12 7 s

/-- `RET cc` (R340). -/
def execRetCc (cc : Cond) (s : State) : Out :=
  .next (if condHolds cc s.flags then (((s.notifyReturn true).dropWord).setPc s.stackTop).tick 11 else (s.notifyReturn false).tick 5)

/-- `RET` (R339). -/
def execRet (s : State) : Out :=
  Machine.ret 10 s

/-- `JP (HL)` (R335). -/
def execJpHL (s : State) : Out :=
  jump s.main.hl 4 s

/-- `JP cc,nn` (R331). -/
def execJpCcNn (cc : Cond) (nn : Word) (s : State) : Out :=
  .next (if condHolds cc s.flags then ((s.notifyPlain).setPc nn).tick 10 else (s.notifyPlain).tick 10)

/-- `JP nn` (R330). -/
def execJpNn (nn : Word) (s : State) : Out :=
  jump nn 10 s

/-- `CALL cc,nn` (R338). -/
def execCallCcNn (cc : Cond) (nn : Word) (s : State) : Out :=
  .next (if condHolds cc s.flags then ((((s.notifyPlain).push16 s.pc).setPc nn).tick 17) else (s.notifyPlain).tick 10)

/-- `CALL nn` (R337). -/
def execCallNn (nn : Word) (s : State) : Out :=
  call nn 17 s

/-- `RST p` (R343). -/
def execRst (p : Oct) (s : State) : Out :=
  call (word 0x00 (BitVec.ofNat 8 (p.toNat * 8))) 11 s

/-- `RETI` (R341). -/
def execReti (s : State) : Out :=
  retInt s

/-- `RETN` (R342). -/
def execRetn (_y : Oct) (s : State) : Out :=
  retInt s

/-- `JP (IX)` (R336). -/
def execJpIX (s : State) : Out :=
  jump s.ix 8 s

/-- `JP (IY)` (R336). -/
def execJpIY (s : State) : Out :=
  jump s.iy 8 s

end Sys2Proof.Machine
end

