-- ==== Sys2Proof/Machine/Load16.lean ====
section
/-! DEFINITION. The 16-bit load and stack group (spec/42_load16.md): one meaning for each row. A meaning runs after the step has moved PC past the bytes fetched and counted R (`fetched`). -/

namespace Sys2Proof.Machine

/-- `LD rp,nn` (R190). -/
def execLdRpNn (rp : RegPair) (nn : Word) (s : State) : Out :=
  load16Imm (pairReg rp) nn (rp == .sp) 10 s

/-- `LD (nn),HL` (R195). -/
def execLdIndNnHL (nn : Word) (s : State) : Out :=
  store16Mem .hl nn 16 s

/-- `LD HL,(nn)` (R192). -/
def execLdHLIndNn (nn : Word) (s : State) : Out :=
  load16Mem .hl nn false 16 s

/-- `POP qq` (R199). -/
def execPopQq (qq : StackPair) (s : State) : Out :=
  pop (stackReg qq) 10 s

/-- `LD SP,HL` (R202). -/
def execLdSPHL (s : State) : Out :=
  loadSp .hl 6 s

/-- `PUSH qq` (R198). -/
def execPushQq (qq : StackPair) (s : State) : Out :=
  push (stackReg qq) 11 s

/-- `LD (nn),rp` (R196). -/
def execLdIndNnRp (rp : RegPair) (nn : Word) (s : State) : Out :=
  store16Mem (pairReg rp) nn 20 s

/-- `LD rp,(nn)` (R193). -/
def execLdRpIndNn (rp : RegPair) (nn : Word) (s : State) : Out :=
  load16Mem (pairReg rp) nn (rp == .sp) 20 s

/-- `LD IX,nn` (R191). -/
def execLdIXNn (nn : Word) (s : State) : Out :=
  load16Imm .ix nn false 14 s

/-- `LD (nn),IX` (R197). -/
def execLdIndNnIX (nn : Word) (s : State) : Out :=
  store16Mem .ix nn 20 s

/-- `LD IX,(nn)` (R194). -/
def execLdIXIndNn (nn : Word) (s : State) : Out :=
  load16Mem .ix nn false 20 s

/-- `POP IX` (R201). -/
def execPopIX (s : State) : Out :=
  pop .ix 14 s

/-- `PUSH IX` (R200). -/
def execPushIX (s : State) : Out :=
  push .ix 15 s

/-- `LD SP,IX` (R203). -/
def execLdSPIX (s : State) : Out :=
  loadSp .ix 10 s

/-- `LD IY,nn` (R191). -/
def execLdIYNn (nn : Word) (s : State) : Out :=
  load16Imm .iy nn false 14 s

/-- `LD (nn),IY` (R197). -/
def execLdIndNnIY (nn : Word) (s : State) : Out :=
  store16Mem .iy nn 20 s

/-- `LD IY,(nn)` (R194). -/
def execLdIYIndNn (nn : Word) (s : State) : Out :=
  load16Mem .iy nn false 20 s

/-- `POP IY` (R201). -/
def execPopIY (s : State) : Out :=
  pop .iy 14 s

/-- `PUSH IY` (R200). -/
def execPushIY (s : State) : Out :=
  push .iy 15 s

/-- `LD SP,IY` (R203). -/
def execLdSPIY (s : State) : Out :=
  loadSp .iy 10 s

end Sys2Proof.Machine
end

