-- ==== Sys2Proof/Machine/Load8.lean ====
section
/-! DEFINITION. The 8-bit load group (spec/41_load8.md): one meaning for each row. A meaning runs after the step has moved PC past the bytes fetched and counted R (`fetched`). -/

namespace Sys2Proof.Machine

/-- `LD (BC),A` (R178). -/
def execLdIndBCA (s : State) : Out :=
  load8 (.mem .bc) (.loc (.reg .a)) 7 s

/-- `LD (DE),A` (R179). -/
def execLdIndDEA (s : State) : Out :=
  load8 (.mem .de) (.loc (.reg .a)) 7 s

/-- `LD (nn),A` (R180). -/
def execLdIndNnA (nn : Word) (s : State) : Out :=
  load8 (.mem (.abs nn)) (.loc (.reg .a)) 13 s

/-- `LD A,(BC)` (R171). -/
def execLdAIndBC (s : State) : Out :=
  load8 (.reg .a) (.loc (.mem .bc)) 7 s

/-- `LD A,(DE)` (R172). -/
def execLdAIndDE (s : State) : Out :=
  load8 (.reg .a) (.loc (.mem .de)) 7 s

/-- `LD A,(nn)` (R173). -/
def execLdAIndNn (nn : Word) (s : State) : Out :=
  load8 (.reg .a) (.loc (.mem (.abs nn))) 13 s

/-- `LD (HL),n` (R165). -/
def execLdIndHLN (n : Byte) (s : State) : Out :=
  load8 (.mem .hl) (.imm n) 10 s

/-- `LD r,n` (R162). -/
def execLdRN (r : Reg8) (n : Byte) (s : State) : Out :=
  load8 (.reg r) (.imm n) 7 s

/-- `LD r,(HL)` (R163). -/
def execLdRIndHL (r : Reg8) (s : State) : Out :=
  load8 (.reg r) (.loc (.mem .hl)) 7 s

/-- `LD (HL),r` (R164). -/
def execLdIndHLR (r : Reg8) (s : State) : Out :=
  load8 (.mem .hl) (.loc (.reg r)) 7 s

/-- `LD r,r'` (R161). -/
def execLdRR (r : Reg8) (r' : Reg8) (s : State) : Out :=
  load8 (.reg r) (.loc (.reg r')) 4 s

/-- `LD I,A` (R176). -/
def execLdIA (s : State) : Out :=
  .next ({ s.notifyPlain with i := s.main.a }.tick 9)

/-- `LD R,A` (R177). -/
def execLdRA (s : State) : Out :=
  .next ({ s.notifyPlain with r := s.main.a }.tick 9)

/-- `LD A,I` (R174). -/
def execLdAI (s : State) : Out :=
  loadAFromControl s.i s

/-- `LD A,R` (R175). -/
def execLdAR (s : State) : Out :=
  loadAFromControl s.r s

/-- `LD IXH,n` (R170). -/
def execLdIXHN (n : Byte) (s : State) : Out :=
  load8 (.half .ix .high) (.imm n) 11 s

/-- `LD IXL,n` (R170). -/
def execLdIXLN (n : Byte) (s : State) : Out :=
  load8 (.half .ix .low) (.imm n) 11 s

/-- `LD (IX+d),n` (R168). -/
def execLdIXdN (d : Byte) (n : Byte) (s : State) : Out :=
  load8 (.mem (.idx .ix d)) (.imm n) 19 s

/-- `LD B,(IX+d)` (R166). -/
def execLdBIXd (d : Byte) (s : State) : Out :=
  load8 (.reg .b) (.loc (.mem (.idx .ix d))) 19 s

/-- `LD C,(IX+d)` (R166). -/
def execLdCIXd (d : Byte) (s : State) : Out :=
  load8 (.reg .c) (.loc (.mem (.idx .ix d))) 19 s

/-- `LD D,(IX+d)` (R166). -/
def execLdDIXd (d : Byte) (s : State) : Out :=
  load8 (.reg .d) (.loc (.mem (.idx .ix d))) 19 s

/-- `LD E,(IX+d)` (R166). -/
def execLdEIXd (d : Byte) (s : State) : Out :=
  load8 (.reg .e) (.loc (.mem (.idx .ix d))) 19 s

/-- `LD H,(IX+d)` (R166). -/
def execLdHIXd (d : Byte) (s : State) : Out :=
  load8 (.reg .h) (.loc (.mem (.idx .ix d))) 19 s

/-- `LD L,(IX+d)` (R166). -/
def execLdLIXd (d : Byte) (s : State) : Out :=
  load8 (.reg .l) (.loc (.mem (.idx .ix d))) 19 s

/-- `LD A,(IX+d)` (R166). -/
def execLdAIXd (d : Byte) (s : State) : Out :=
  load8 (.reg .a) (.loc (.mem (.idx .ix d))) 19 s

/-- `LD (IX+d),B` (R167). -/
def execLdIXdB (d : Byte) (s : State) : Out :=
  load8 (.mem (.idx .ix d)) (.loc (.reg .b)) 19 s

/-- `LD (IX+d),C` (R167). -/
def execLdIXdC (d : Byte) (s : State) : Out :=
  load8 (.mem (.idx .ix d)) (.loc (.reg .c)) 19 s

/-- `LD (IX+d),D` (R167). -/
def execLdIXdD (d : Byte) (s : State) : Out :=
  load8 (.mem (.idx .ix d)) (.loc (.reg .d)) 19 s

/-- `LD (IX+d),E` (R167). -/
def execLdIXdE (d : Byte) (s : State) : Out :=
  load8 (.mem (.idx .ix d)) (.loc (.reg .e)) 19 s

/-- `LD (IX+d),H` (R167). -/
def execLdIXdH (d : Byte) (s : State) : Out :=
  load8 (.mem (.idx .ix d)) (.loc (.reg .h)) 19 s

/-- `LD (IX+d),L` (R167). -/
def execLdIXdL (d : Byte) (s : State) : Out :=
  load8 (.mem (.idx .ix d)) (.loc (.reg .l)) 19 s

/-- `LD (IX+d),A` (R167). -/
def execLdIXdA (d : Byte) (s : State) : Out :=
  load8 (.mem (.idx .ix d)) (.loc (.reg .a)) 19 s

/-- `LD B,IXH` (R169). -/
def execLdBIXH (s : State) : Out :=
  load8 (.reg .b) (.loc (.half .ix .high)) 8 s

/-- `LD B,IXL` (R169). -/
def execLdBIXL (s : State) : Out :=
  load8 (.reg .b) (.loc (.half .ix .low)) 8 s

/-- `LD C,IXH` (R169). -/
def execLdCIXH (s : State) : Out :=
  load8 (.reg .c) (.loc (.half .ix .high)) 8 s

/-- `LD C,IXL` (R169). -/
def execLdCIXL (s : State) : Out :=
  load8 (.reg .c) (.loc (.half .ix .low)) 8 s

/-- `LD D,IXH` (R169). -/
def execLdDIXH (s : State) : Out :=
  load8 (.reg .d) (.loc (.half .ix .high)) 8 s

/-- `LD D,IXL` (R169). -/
def execLdDIXL (s : State) : Out :=
  load8 (.reg .d) (.loc (.half .ix .low)) 8 s

/-- `LD E,IXH` (R169). -/
def execLdEIXH (s : State) : Out :=
  load8 (.reg .e) (.loc (.half .ix .high)) 8 s

/-- `LD E,IXL` (R169). -/
def execLdEIXL (s : State) : Out :=
  load8 (.reg .e) (.loc (.half .ix .low)) 8 s

/-- `LD IXH,B` (R169). -/
def execLdIXHB (s : State) : Out :=
  load8 (.half .ix .high) (.loc (.reg .b)) 8 s

/-- `LD IXH,C` (R169). -/
def execLdIXHC (s : State) : Out :=
  load8 (.half .ix .high) (.loc (.reg .c)) 8 s

/-- `LD IXH,D` (R169). -/
def execLdIXHD (s : State) : Out :=
  load8 (.half .ix .high) (.loc (.reg .d)) 8 s

/-- `LD IXH,E` (R169). -/
def execLdIXHE (s : State) : Out :=
  load8 (.half .ix .high) (.loc (.reg .e)) 8 s

/-- `LD IXH,IXH` (R169). -/
def execLdIXHIXH (s : State) : Out :=
  load8 (.half .ix .high) (.loc (.half .ix .high)) 8 s

/-- `LD IXH,IXL` (R169). -/
def execLdIXHIXL (s : State) : Out :=
  load8 (.half .ix .high) (.loc (.half .ix .low)) 8 s

/-- `LD IXH,A` (R169). -/
def execLdIXHA (s : State) : Out :=
  load8 (.half .ix .high) (.loc (.reg .a)) 8 s

/-- `LD IXL,B` (R169). -/
def execLdIXLB (s : State) : Out :=
  load8 (.half .ix .low) (.loc (.reg .b)) 8 s

/-- `LD IXL,C` (R169). -/
def execLdIXLC (s : State) : Out :=
  load8 (.half .ix .low) (.loc (.reg .c)) 8 s

/-- `LD IXL,D` (R169). -/
def execLdIXLD (s : State) : Out :=
  load8 (.half .ix .low) (.loc (.reg .d)) 8 s

/-- `LD IXL,E` (R169). -/
def execLdIXLE (s : State) : Out :=
  load8 (.half .ix .low) (.loc (.reg .e)) 8 s

/-- `LD IXL,IXH` (R169). -/
def execLdIXLIXH (s : State) : Out :=
  load8 (.half .ix .low) (.loc (.half .ix .high)) 8 s

/-- `LD IXL,IXL` (R169). -/
def execLdIXLIXL (s : State) : Out :=
  load8 (.half .ix .low) (.loc (.half .ix .low)) 8 s

/-- `LD IXL,A` (R169). -/
def execLdIXLA (s : State) : Out :=
  load8 (.half .ix .low) (.loc (.reg .a)) 8 s

/-- `LD A,IXH` (R169). -/
def execLdAIXH (s : State) : Out :=
  load8 (.reg .a) (.loc (.half .ix .high)) 8 s

/-- `LD A,IXL` (R169). -/
def execLdAIXL (s : State) : Out :=
  load8 (.reg .a) (.loc (.half .ix .low)) 8 s

/-- `LD IYH,n` (R170). -/
def execLdIYHN (n : Byte) (s : State) : Out :=
  load8 (.half .iy .high) (.imm n) 11 s

/-- `LD IYL,n` (R170). -/
def execLdIYLN (n : Byte) (s : State) : Out :=
  load8 (.half .iy .low) (.imm n) 11 s

/-- `LD (IY+d),n` (R168). -/
def execLdIYdN (d : Byte) (n : Byte) (s : State) : Out :=
  load8 (.mem (.idx .iy d)) (.imm n) 19 s

/-- `LD B,(IY+d)` (R166). -/
def execLdBIYd (d : Byte) (s : State) : Out :=
  load8 (.reg .b) (.loc (.mem (.idx .iy d))) 19 s

/-- `LD C,(IY+d)` (R166). -/
def execLdCIYd (d : Byte) (s : State) : Out :=
  load8 (.reg .c) (.loc (.mem (.idx .iy d))) 19 s

/-- `LD D,(IY+d)` (R166). -/
def execLdDIYd (d : Byte) (s : State) : Out :=
  load8 (.reg .d) (.loc (.mem (.idx .iy d))) 19 s

/-- `LD E,(IY+d)` (R166). -/
def execLdEIYd (d : Byte) (s : State) : Out :=
  load8 (.reg .e) (.loc (.mem (.idx .iy d))) 19 s

/-- `LD H,(IY+d)` (R166). -/
def execLdHIYd (d : Byte) (s : State) : Out :=
  load8 (.reg .h) (.loc (.mem (.idx .iy d))) 19 s

/-- `LD L,(IY+d)` (R166). -/
def execLdLIYd (d : Byte) (s : State) : Out :=
  load8 (.reg .l) (.loc (.mem (.idx .iy d))) 19 s

/-- `LD A,(IY+d)` (R166). -/
def execLdAIYd (d : Byte) (s : State) : Out :=
  load8 (.reg .a) (.loc (.mem (.idx .iy d))) 19 s

/-- `LD (IY+d),B` (R167). -/
def execLdIYdB (d : Byte) (s : State) : Out :=
  load8 (.mem (.idx .iy d)) (.loc (.reg .b)) 19 s

/-- `LD (IY+d),C` (R167). -/
def execLdIYdC (d : Byte) (s : State) : Out :=
  load8 (.mem (.idx .iy d)) (.loc (.reg .c)) 19 s

/-- `LD (IY+d),D` (R167). -/
def execLdIYdD (d : Byte) (s : State) : Out :=
  load8 (.mem (.idx .iy d)) (.loc (.reg .d)) 19 s

/-- `LD (IY+d),E` (R167). -/
def execLdIYdE (d : Byte) (s : State) : Out :=
  load8 (.mem (.idx .iy d)) (.loc (.reg .e)) 19 s

/-- `LD (IY+d),H` (R167). -/
def execLdIYdH (d : Byte) (s : State) : Out :=
  load8 (.mem (.idx .iy d)) (.loc (.reg .h)) 19 s

/-- `LD (IY+d),L` (R167). -/
def execLdIYdL (d : Byte) (s : State) : Out :=
  load8 (.mem (.idx .iy d)) (.loc (.reg .l)) 19 s

/-- `LD (IY+d),A` (R167). -/
def execLdIYdA (d : Byte) (s : State) : Out :=
  load8 (.mem (.idx .iy d)) (.loc (.reg .a)) 19 s

/-- `LD B,IYH` (R169). -/
def execLdBIYH (s : State) : Out :=
  load8 (.reg .b) (.loc (.half .iy .high)) 8 s

/-- `LD B,IYL` (R169). -/
def execLdBIYL (s : State) : Out :=
  load8 (.reg .b) (.loc (.half .iy .low)) 8 s

/-- `LD C,IYH` (R169). -/
def execLdCIYH (s : State) : Out :=
  load8 (.reg .c) (.loc (.half .iy .high)) 8 s

/-- `LD C,IYL` (R169). -/
def execLdCIYL (s : State) : Out :=
  load8 (.reg .c) (.loc (.half .iy .low)) 8 s

/-- `LD D,IYH` (R169). -/
def execLdDIYH (s : State) : Out :=
  load8 (.reg .d) (.loc (.half .iy .high)) 8 s

/-- `LD D,IYL` (R169). -/
def execLdDIYL (s : State) : Out :=
  load8 (.reg .d) (.loc (.half .iy .low)) 8 s

/-- `LD E,IYH` (R169). -/
def execLdEIYH (s : State) : Out :=
  load8 (.reg .e) (.loc (.half .iy .high)) 8 s

/-- `LD E,IYL` (R169). -/
def execLdEIYL (s : State) : Out :=
  load8 (.reg .e) (.loc (.half .iy .low)) 8 s

/-- `LD IYH,B` (R169). -/
def execLdIYHB (s : State) : Out :=
  load8 (.half .iy .high) (.loc (.reg .b)) 8 s

/-- `LD IYH,C` (R169). -/
def execLdIYHC (s : State) : Out :=
  load8 (.half .iy .high) (.loc (.reg .c)) 8 s

/-- `LD IYH,D` (R169). -/
def execLdIYHD (s : State) : Out :=
  load8 (.half .iy .high) (.loc (.reg .d)) 8 s

/-- `LD IYH,E` (R169). -/
def execLdIYHE (s : State) : Out :=
  load8 (.half .iy .high) (.loc (.reg .e)) 8 s

/-- `LD IYH,IYH` (R169). -/
def execLdIYHIYH (s : State) : Out :=
  load8 (.half .iy .high) (.loc (.half .iy .high)) 8 s

/-- `LD IYH,IYL` (R169). -/
def execLdIYHIYL (s : State) : Out :=
  load8 (.half .iy .high) (.loc (.half .iy .low)) 8 s

/-- `LD IYH,A` (R169). -/
def execLdIYHA (s : State) : Out :=
  load8 (.half .iy .high) (.loc (.reg .a)) 8 s

/-- `LD IYL,B` (R169). -/
def execLdIYLB (s : State) : Out :=
  load8 (.half .iy .low) (.loc (.reg .b)) 8 s

/-- `LD IYL,C` (R169). -/
def execLdIYLC (s : State) : Out :=
  load8 (.half .iy .low) (.loc (.reg .c)) 8 s

/-- `LD IYL,D` (R169). -/
def execLdIYLD (s : State) : Out :=
  load8 (.half .iy .low) (.loc (.reg .d)) 8 s

/-- `LD IYL,E` (R169). -/
def execLdIYLE (s : State) : Out :=
  load8 (.half .iy .low) (.loc (.reg .e)) 8 s

/-- `LD IYL,IYH` (R169). -/
def execLdIYLIYH (s : State) : Out :=
  load8 (.half .iy .low) (.loc (.half .iy .high)) 8 s

/-- `LD IYL,IYL` (R169). -/
def execLdIYLIYL (s : State) : Out :=
  load8 (.half .iy .low) (.loc (.half .iy .low)) 8 s

/-- `LD IYL,A` (R169). -/
def execLdIYLA (s : State) : Out :=
  load8 (.half .iy .low) (.loc (.reg .a)) 8 s

/-- `LD A,IYH` (R169). -/
def execLdAIYH (s : State) : Out :=
  load8 (.reg .a) (.loc (.half .iy .high)) 8 s

/-- `LD A,IYL` (R169). -/
def execLdAIYL (s : State) : Out :=
  load8 (.reg .a) (.loc (.half .iy .low)) 8 s

end Sys2Proof.Machine
end

