-- ==== Sys2Proof/Machine/Rotate.lean ====
section
/-! DEFINITION. The rotate, shift and bit group (spec/47_rotate_shift_bit.md): one meaning for each row. A meaning runs after the step has moved PC past the bytes fetched and counted R (`fetched`). -/

namespace Sys2Proof.Machine

/-- `RLCA` (R300). -/
def execRlca (s : State) : Out :=
  rotateA .rlc s

/-- `RRCA` (R301). -/
def execRrca (s : State) : Out :=
  rotateA .rrc s

/-- `RLA` (R302). -/
def execRla (s : State) : Out :=
  rotateA .rl s

/-- `RRA` (R303). -/
def execRra (s : State) : Out :=
  rotateA .rr s

/-- `RLC (HL)` (R306). -/
def execRlcIndHL (s : State) : Out :=
  rotate .rlc (.mem .hl) 15 s

/-- `RLC r` (R306). -/
def execRlcR (r : Reg8) (s : State) : Out :=
  rotate .rlc (.reg r) 8 s

/-- `RRC (HL)` (R307). -/
def execRrcIndHL (s : State) : Out :=
  rotate .rrc (.mem .hl) 15 s

/-- `RRC r` (R307). -/
def execRrcR (r : Reg8) (s : State) : Out :=
  rotate .rrc (.reg r) 8 s

/-- `RL (HL)` (R308). -/
def execRlIndHL (s : State) : Out :=
  rotate .rl (.mem .hl) 15 s

/-- `RL r` (R308). -/
def execRlR (r : Reg8) (s : State) : Out :=
  rotate .rl (.reg r) 8 s

/-- `RR (HL)` (R309). -/
def execRrIndHL (s : State) : Out :=
  rotate .rr (.mem .hl) 15 s

/-- `RR r` (R309). -/
def execRrR (r : Reg8) (s : State) : Out :=
  rotate .rr (.reg r) 8 s

/-- `SLA (HL)` (R310). -/
def execSlaIndHL (s : State) : Out :=
  rotate .sla (.mem .hl) 15 s

/-- `SLA r` (R310). -/
def execSlaR (r : Reg8) (s : State) : Out :=
  rotate .sla (.reg r) 8 s

/-- `SRA (HL)` (R311). -/
def execSraIndHL (s : State) : Out :=
  rotate .sra (.mem .hl) 15 s

/-- `SRA r` (R311). -/
def execSraR (r : Reg8) (s : State) : Out :=
  rotate .sra (.reg r) 8 s

/-- `SLL (HL)` (R312). -/
def execSllIndHL (s : State) : Out :=
  rotate .sll (.mem .hl) 15 s

/-- `SLL r` (R312). -/
def execSllR (r : Reg8) (s : State) : Out :=
  rotate .sll (.reg r) 8 s

/-- `SRL (HL)` (R313). -/
def execSrlIndHL (s : State) : Out :=
  rotate .srl (.mem .hl) 15 s

/-- `SRL r` (R313). -/
def execSrlR (r : Reg8) (s : State) : Out :=
  rotate .srl (.reg r) 8 s

/-- `BIT b,(HL)` (R315). F5 and F3 are free values (D10, log 3). -/
def execBitBIndHL (b : Oct) (s : State) : Out :=
  testBit b (.mem .hl) (Config.bitF5 s.draw) (Config.bitF3 s.draw) 12 s

/-- `BIT b,r` (R314). -/
def execBitBR (b : Oct) (r : Reg8) (s : State) : Out :=
  testBit b (.reg r) ((s.reg r).getLsbD 5) ((s.reg r).getLsbD 3) 8 s

/-- `RES b,(HL)` (R317). -/
def execResBIndHL (b : Oct) (s : State) : Out :=
  change8 (resBit b) (.mem .hl) 15 s

/-- `RES b,r` (R317). -/
def execResBR (b : Oct) (r : Reg8) (s : State) : Out :=
  change8 (resBit b) (.reg r) 8 s

/-- `SET b,(HL)` (R318). -/
def execSetBIndHL (b : Oct) (s : State) : Out :=
  change8 (setBit b) (.mem .hl) 15 s

/-- `SET b,r` (R318). -/
def execSetBR (b : Oct) (r : Reg8) (s : State) : Out :=
  change8 (setBit b) (.reg r) 8 s

/-- `RRD` (R320). -/
def execRrd (s : State) : Out :=
  nibbleRotate (fun a t => ((a &&& 0xF0) ||| (t &&& 0x0F), (a <<< 4) ||| (t >>> 4))) s

/-- `RLD` (R319). -/
def execRld (s : State) : Out :=
  nibbleRotate (fun a t => ((a &&& 0xF0) ||| (t >>> 4), (t <<< 4) ||| (a &&& 0x0F))) s

/-- `RLC (IX+d)` (R306). -/
def execRlcIXd (d : Byte) (s : State) : Out :=
  rotate .rlc (.mem (.idx .ix d)) 23 s

/-- `RLC (IX+d),r` (R306). -/
def execRlcIXdR (d : Byte) (r : Reg8) (s : State) : Out :=
  rotateCopy .rlc .ix d r s

/-- `RRC (IX+d)` (R307). -/
def execRrcIXd (d : Byte) (s : State) : Out :=
  rotate .rrc (.mem (.idx .ix d)) 23 s

/-- `RRC (IX+d),r` (R307). -/
def execRrcIXdR (d : Byte) (r : Reg8) (s : State) : Out :=
  rotateCopy .rrc .ix d r s

/-- `RL (IX+d)` (R308). -/
def execRlIXd (d : Byte) (s : State) : Out :=
  rotate .rl (.mem (.idx .ix d)) 23 s

/-- `RL (IX+d),r` (R308). -/
def execRlIXdR (d : Byte) (r : Reg8) (s : State) : Out :=
  rotateCopy .rl .ix d r s

/-- `RR (IX+d)` (R309). -/
def execRrIXd (d : Byte) (s : State) : Out :=
  rotate .rr (.mem (.idx .ix d)) 23 s

/-- `RR (IX+d),r` (R309). -/
def execRrIXdR (d : Byte) (r : Reg8) (s : State) : Out :=
  rotateCopy .rr .ix d r s

/-- `SLA (IX+d)` (R310). -/
def execSlaIXd (d : Byte) (s : State) : Out :=
  rotate .sla (.mem (.idx .ix d)) 23 s

/-- `SLA (IX+d),r` (R310). -/
def execSlaIXdR (d : Byte) (r : Reg8) (s : State) : Out :=
  rotateCopy .sla .ix d r s

/-- `SRA (IX+d)` (R311). -/
def execSraIXd (d : Byte) (s : State) : Out :=
  rotate .sra (.mem (.idx .ix d)) 23 s

/-- `SRA (IX+d),r` (R311). -/
def execSraIXdR (d : Byte) (r : Reg8) (s : State) : Out :=
  rotateCopy .sra .ix d r s

/-- `SLL (IX+d)` (R312). -/
def execSllIXd (d : Byte) (s : State) : Out :=
  rotate .sll (.mem (.idx .ix d)) 23 s

/-- `SLL (IX+d),r` (R312). -/
def execSllIXdR (d : Byte) (r : Reg8) (s : State) : Out :=
  rotateCopy .sll .ix d r s

/-- `SRL (IX+d)` (R313). -/
def execSrlIXd (d : Byte) (s : State) : Out :=
  rotate .srl (.mem (.idx .ix d)) 23 s

/-- `SRL (IX+d),r` (R313). -/
def execSrlIXdR (d : Byte) (r : Reg8) (s : State) : Out :=
  rotateCopy .srl .ix d r s

/-- `BIT b,(IX+d)` (R316). -/
def execBitBIXd (b : Oct) (d : Byte) (_z : Oct) (s : State) : Out :=
  testBit b (.mem (.idx .ix d)) ((s.addr (.idx .ix d)).getLsbD 13) ((s.addr (.idx .ix d)).getLsbD 11) 20 s

/-- `RES b,(IX+d)` (R317). -/
def execResBIXd (b : Oct) (d : Byte) (s : State) : Out :=
  change8 (resBit b) (.mem (.idx .ix d)) 23 s

/-- `RES b,(IX+d),r` (R317). -/
def execResBIXdR (b : Oct) (d : Byte) (r : Reg8) (s : State) : Out :=
  changeCopy (resBit b) .ix d r s

/-- `SET b,(IX+d)` (R318). -/
def execSetBIXd (b : Oct) (d : Byte) (s : State) : Out :=
  change8 (setBit b) (.mem (.idx .ix d)) 23 s

/-- `SET b,(IX+d),r` (R318). -/
def execSetBIXdR (b : Oct) (d : Byte) (r : Reg8) (s : State) : Out :=
  changeCopy (setBit b) .ix d r s

/-- `RLC (IY+d)` (R306). -/
def execRlcIYd (d : Byte) (s : State) : Out :=
  rotate .rlc (.mem (.idx .iy d)) 23 s

/-- `RLC (IY+d),r` (R306). -/
def execRlcIYdR (d : Byte) (r : Reg8) (s : State) : Out :=
  rotateCopy .rlc .iy d r s

/-- `RRC (IY+d)` (R307). -/
def execRrcIYd (d : Byte) (s : State) : Out :=
  rotate .rrc (.mem (.idx .iy d)) 23 s

/-- `RRC (IY+d),r` (R307). -/
def execRrcIYdR (d : Byte) (r : Reg8) (s : State) : Out :=
  rotateCopy .rrc .iy d r s

/-- `RL (IY+d)` (R308). -/
def execRlIYd (d : Byte) (s : State) : Out :=
  rotate .rl (.mem (.idx .iy d)) 23 s

/-- `RL (IY+d),r` (R308). -/
def execRlIYdR (d : Byte) (r : Reg8) (s : State) : Out :=
  rotateCopy .rl .iy d r s

/-- `RR (IY+d)` (R309). -/
def execRrIYd (d : Byte) (s : State) : Out :=
  rotate .rr (.mem (.idx .iy d)) 23 s

/-- `RR (IY+d),r` (R309). -/
def execRrIYdR (d : Byte) (r : Reg8) (s : State) : Out :=
  rotateCopy .rr .iy d r s

/-- `SLA (IY+d)` (R310). -/
def execSlaIYd (d : Byte) (s : State) : Out :=
  rotate .sla (.mem (.idx .iy d)) 23 s

/-- `SLA (IY+d),r` (R310). -/
def execSlaIYdR (d : Byte) (r : Reg8) (s : State) : Out :=
  rotateCopy .sla .iy d r s

/-- `SRA (IY+d)` (R311). -/
def execSraIYd (d : Byte) (s : State) : Out :=
  rotate .sra (.mem (.idx .iy d)) 23 s

/-- `SRA (IY+d),r` (R311). -/
def execSraIYdR (d : Byte) (r : Reg8) (s : State) : Out :=
  rotateCopy .sra .iy d r s

/-- `SLL (IY+d)` (R312). -/
def execSllIYd (d : Byte) (s : State) : Out :=
  rotate .sll (.mem (.idx .iy d)) 23 s

/-- `SLL (IY+d),r` (R312). -/
def execSllIYdR (d : Byte) (r : Reg8) (s : State) : Out :=
  rotateCopy .sll .iy d r s

/-- `SRL (IY+d)` (R313). -/
def execSrlIYd (d : Byte) (s : State) : Out :=
  rotate .srl (.mem (.idx .iy d)) 23 s

/-- `SRL (IY+d),r` (R313). -/
def execSrlIYdR (d : Byte) (r : Reg8) (s : State) : Out :=
  rotateCopy .srl .iy d r s

/-- `BIT b,(IY+d)` (R316). -/
def execBitBIYd (b : Oct) (d : Byte) (_z : Oct) (s : State) : Out :=
  testBit b (.mem (.idx .iy d)) ((s.addr (.idx .iy d)).getLsbD 13) ((s.addr (.idx .iy d)).getLsbD 11) 20 s

/-- `RES b,(IY+d)` (R317). -/
def execResBIYd (b : Oct) (d : Byte) (s : State) : Out :=
  change8 (resBit b) (.mem (.idx .iy d)) 23 s

/-- `RES b,(IY+d),r` (R317). -/
def execResBIYdR (b : Oct) (d : Byte) (r : Reg8) (s : State) : Out :=
  changeCopy (resBit b) .iy d r s

/-- `SET b,(IY+d)` (R318). -/
def execSetBIYd (b : Oct) (d : Byte) (s : State) : Out :=
  change8 (setBit b) (.mem (.idx .iy d)) 23 s

/-- `SET b,(IY+d),r` (R318). -/
def execSetBIYdR (b : Oct) (d : Byte) (r : Reg8) (s : State) : Out :=
  changeCopy (setBit b) .iy d r s

end Sys2Proof.Machine
end

