-- ==== Sys2Proof/Machine/Dispatch.lean ====
section
/-! DEFINITION. The dispatch (spec/40_dispatch.md R131-R139): one arm for each constructor of Instr, in the order of spec/opcode_table.json, each a direct call of its meaning. -/

namespace Sys2Proof.Machine

def exec (i : Instr) (s : State) : Host.Outcome State Fault Refusal :=
  match i with
  | .nop => Sys2Proof.Machine.execNop s
  | .exAFAF => Sys2Proof.Machine.execExAFAF s
  | .djnz e => Sys2Proof.Machine.execDjnz e s
  | .jr e => Sys2Proof.Machine.execJr e s
  | .jrCc cc e => Sys2Proof.Machine.execJrCc cc e s
  | .ldRpNn rp nn => Sys2Proof.Machine.execLdRpNn rp nn s
  | .addHLRp rp => Sys2Proof.Machine.execAddHLRp rp s
  | .ldIndBCA => Sys2Proof.Machine.execLdIndBCA s
  | .ldIndDEA => Sys2Proof.Machine.execLdIndDEA s
  | .ldIndNnHL nn => Sys2Proof.Machine.execLdIndNnHL nn s
  | .ldIndNnA nn => Sys2Proof.Machine.execLdIndNnA nn s
  | .ldAIndBC => Sys2Proof.Machine.execLdAIndBC s
  | .ldAIndDE => Sys2Proof.Machine.execLdAIndDE s
  | .ldHLIndNn nn => Sys2Proof.Machine.execLdHLIndNn nn s
  | .ldAIndNn nn => Sys2Proof.Machine.execLdAIndNn nn s
  | .incRp rp => Sys2Proof.Machine.execIncRp rp s
  | .decRp rp => Sys2Proof.Machine.execDecRp rp s
  | .incIndHL => Sys2Proof.Machine.execIncIndHL s
  | .incR r => Sys2Proof.Machine.execIncR r s
  | .decIndHL => Sys2Proof.Machine.execDecIndHL s
  | .decR r => Sys2Proof.Machine.execDecR r s
  | .ldIndHLN n => Sys2Proof.Machine.execLdIndHLN n s
  | .ldRN r n => Sys2Proof.Machine.execLdRN r n s
  | .rlca => Sys2Proof.Machine.execRlca s
  | .rrca => Sys2Proof.Machine.execRrca s
  | .rla => Sys2Proof.Machine.execRla s
  | .rra => Sys2Proof.Machine.execRra s
  | .daa => Sys2Proof.Machine.execDaa s
  | .cpl => Sys2Proof.Machine.execCpl s
  | .scf => Sys2Proof.Machine.execScf s
  | .ccf => Sys2Proof.Machine.execCcf s
  | .halt => Sys2Proof.Machine.execHalt s
  | .ldRIndHL r => Sys2Proof.Machine.execLdRIndHL r s
  | .ldIndHLR r => Sys2Proof.Machine.execLdIndHLR r s
  | .ldRR r r' => Sys2Proof.Machine.execLdRR r r' s
  | .addAIndHL => Sys2Proof.Machine.execAddAIndHL s
  | .addAR r => Sys2Proof.Machine.execAddAR r s
  | .adcAIndHL => Sys2Proof.Machine.execAdcAIndHL s
  | .adcAR r => Sys2Proof.Machine.execAdcAR r s
  | .subIndHL => Sys2Proof.Machine.execSubIndHL s
  | .subR r => Sys2Proof.Machine.execSubR r s
  | .sbcAIndHL => Sys2Proof.Machine.execSbcAIndHL s
  | .sbcAR r => Sys2Proof.Machine.execSbcAR r s
  | .andIndHL => Sys2Proof.Machine.execAndIndHL s
  | .andR r => Sys2Proof.Machine.execAndR r s
  | .xorIndHL => Sys2Proof.Machine.execXorIndHL s
  | .xorR r => Sys2Proof.Machine.execXorR r s
  | .orIndHL => Sys2Proof.Machine.execOrIndHL s
  | .orR r => Sys2Proof.Machine.execOrR r s
  | .cpIndHL => Sys2Proof.Machine.execCpIndHL s
  | .cpR r => Sys2Proof.Machine.execCpR r s
  | .retCc cc => Sys2Proof.Machine.execRetCc cc s
  | .popQq qq => Sys2Proof.Machine.execPopQq qq s
  | .ret => Sys2Proof.Machine.execRet s
  | .exx => Sys2Proof.Machine.execExx s
  | .jpHL => Sys2Proof.Machine.execJpHL s
  | .ldSPHL => Sys2Proof.Machine.execLdSPHL s
  | .jpCcNn cc nn => Sys2Proof.Machine.execJpCcNn cc nn s
  | .jpNn nn => Sys2Proof.Machine.execJpNn nn s
  | .outPortNA n => Sys2Proof.Machine.execOutPortNA n s
  | .inAPortN n => Sys2Proof.Machine.execInAPortN n s
  | .exIndSPHL => Sys2Proof.Machine.execExIndSPHL s
  | .exDEHL => Sys2Proof.Machine.execExDEHL s
  | .di => Sys2Proof.Machine.execDi s
  | .ei => Sys2Proof.Machine.execEi s
  | .callCcNn cc nn => Sys2Proof.Machine.execCallCcNn cc nn s
  | .pushQq qq => Sys2Proof.Machine.execPushQq qq s
  | .callNn nn => Sys2Proof.Machine.execCallNn nn s
  | .addAN n => Sys2Proof.Machine.execAddAN n s
  | .adcAN n => Sys2Proof.Machine.execAdcAN n s
  | .subN n => Sys2Proof.Machine.execSubN n s
  | .sbcAN n => Sys2Proof.Machine.execSbcAN n s
  | .andN n => Sys2Proof.Machine.execAndN n s
  | .xorN n => Sys2Proof.Machine.execXorN n s
  | .orN n => Sys2Proof.Machine.execOrN n s
  | .cpN n => Sys2Proof.Machine.execCpN n s
  | .rst p => Sys2Proof.Machine.execRst p s
  | .rlcIndHL => Sys2Proof.Machine.execRlcIndHL s
  | .rlcR r => Sys2Proof.Machine.execRlcR r s
  | .rrcIndHL => Sys2Proof.Machine.execRrcIndHL s
  | .rrcR r => Sys2Proof.Machine.execRrcR r s
  | .rlIndHL => Sys2Proof.Machine.execRlIndHL s
  | .rlR r => Sys2Proof.Machine.execRlR r s
  | .rrIndHL => Sys2Proof.Machine.execRrIndHL s
  | .rrR r => Sys2Proof.Machine.execRrR r s
  | .slaIndHL => Sys2Proof.Machine.execSlaIndHL s
  | .slaR r => Sys2Proof.Machine.execSlaR r s
  | .sraIndHL => Sys2Proof.Machine.execSraIndHL s
  | .sraR r => Sys2Proof.Machine.execSraR r s
  | .sllIndHL => Sys2Proof.Machine.execSllIndHL s
  | .sllR r => Sys2Proof.Machine.execSllR r s
  | .srlIndHL => Sys2Proof.Machine.execSrlIndHL s
  | .srlR r => Sys2Proof.Machine.execSrlR r s
  | .bitBIndHL b => Sys2Proof.Machine.execBitBIndHL b s
  | .bitBR b r => Sys2Proof.Machine.execBitBR b r s
  | .resBIndHL b => Sys2Proof.Machine.execResBIndHL b s
  | .resBR b r => Sys2Proof.Machine.execResBR b r s
  | .setBIndHL b => Sys2Proof.Machine.execSetBIndHL b s
  | .setBR b r => Sys2Proof.Machine.execSetBR b r s
  | .unsupportedED00 op => Sys2Proof.Machine.execUnsupportedED00 op s
  | .unsupportedED80 op => Sys2Proof.Machine.execUnsupportedED80 op s
  | .unsupportedEDA4 op => Sys2Proof.Machine.execUnsupportedEDA4 op s
  | .unsupportedEDC0 op => Sys2Proof.Machine.execUnsupportedEDC0 op s
  | .ldi => Sys2Proof.Machine.execLdi s
  | .cpi => Sys2Proof.Machine.execCpi s
  | .ini => Sys2Proof.Machine.execIni s
  | .outi => Sys2Proof.Machine.execOuti s
  | .ldd => Sys2Proof.Machine.execLdd s
  | .cpd => Sys2Proof.Machine.execCpd s
  | .ind => Sys2Proof.Machine.execInd s
  | .outd => Sys2Proof.Machine.execOutd s
  | .ldir => Sys2Proof.Machine.execLdir s
  | .cpir => Sys2Proof.Machine.execCpir s
  | .inir => Sys2Proof.Machine.execInir s
  | .otir => Sys2Proof.Machine.execOtir s
  | .lddr => Sys2Proof.Machine.execLddr s
  | .cpdr => Sys2Proof.Machine.execCpdr s
  | .indr => Sys2Proof.Machine.execIndr s
  | .otdr => Sys2Proof.Machine.execOtdr s
  | .inFPortC => Sys2Proof.Machine.execInFPortC s
  | .inRPortC r => Sys2Proof.Machine.execInRPortC r s
  | .outPortC0 => Sys2Proof.Machine.execOutPortC0 s
  | .outPortCR r => Sys2Proof.Machine.execOutPortCR r s
  | .sbcHLRp rp => Sys2Proof.Machine.execSbcHLRp rp s
  | .adcHLRp rp => Sys2Proof.Machine.execAdcHLRp rp s
  | .ldIndNnRp rp nn => Sys2Proof.Machine.execLdIndNnRp rp nn s
  | .ldRpIndNn rp nn => Sys2Proof.Machine.execLdRpIndNn rp nn s
  | .neg y => Sys2Proof.Machine.execNeg y s
  | .reti => Sys2Proof.Machine.execReti s
  | .retn y => Sys2Proof.Machine.execRetn y s
  | .im0 y => Sys2Proof.Machine.execIm0 y s
  | .im1 y => Sys2Proof.Machine.execIm1 y s
  | .im2 y => Sys2Proof.Machine.execIm2 y s
  | .ldIA => Sys2Proof.Machine.execLdIA s
  | .ldRA => Sys2Proof.Machine.execLdRA s
  | .ldAI => Sys2Proof.Machine.execLdAI s
  | .ldAR => Sys2Proof.Machine.execLdAR s
  | .rrd => Sys2Proof.Machine.execRrd s
  | .rld => Sys2Proof.Machine.execRld s
  | .edNop y => Sys2Proof.Machine.execEdNop y s
  | .addIXPp pp => Sys2Proof.Machine.execAddIXPp pp s
  | .ldIXNn nn => Sys2Proof.Machine.execLdIXNn nn s
  | .ldIndNnIX nn => Sys2Proof.Machine.execLdIndNnIX nn s
  | .ldIXIndNn nn => Sys2Proof.Machine.execLdIXIndNn nn s
  | .incIX => Sys2Proof.Machine.execIncIX s
  | .decIX => Sys2Proof.Machine.execDecIX s
  | .incIXH => Sys2Proof.Machine.execIncIXH s
  | .incIXL => Sys2Proof.Machine.execIncIXL s
  | .decIXH => Sys2Proof.Machine.execDecIXH s
  | .decIXL => Sys2Proof.Machine.execDecIXL s
  | .ldIXHN n => Sys2Proof.Machine.execLdIXHN n s
  | .ldIXLN n => Sys2Proof.Machine.execLdIXLN n s
  | .incIXd d => Sys2Proof.Machine.execIncIXd d s
  | .decIXd d => Sys2Proof.Machine.execDecIXd d s
  | .ldIXdN d n => Sys2Proof.Machine.execLdIXdN d n s
  | .ldBIXd d => Sys2Proof.Machine.execLdBIXd d s
  | .ldCIXd d => Sys2Proof.Machine.execLdCIXd d s
  | .ldDIXd d => Sys2Proof.Machine.execLdDIXd d s
  | .ldEIXd d => Sys2Proof.Machine.execLdEIXd d s
  | .ldHIXd d => Sys2Proof.Machine.execLdHIXd d s
  | .ldLIXd d => Sys2Proof.Machine.execLdLIXd d s
  | .ldAIXd d => Sys2Proof.Machine.execLdAIXd d s
  | .ldIXdB d => Sys2Proof.Machine.execLdIXdB d s
  | .ldIXdC d => Sys2Proof.Machine.execLdIXdC d s
  | .ldIXdD d => Sys2Proof.Machine.execLdIXdD d s
  | .ldIXdE d => Sys2Proof.Machine.execLdIXdE d s
  | .ldIXdH d => Sys2Proof.Machine.execLdIXdH d s
  | .ldIXdL d => Sys2Proof.Machine.execLdIXdL d s
  | .ldIXdA d => Sys2Proof.Machine.execLdIXdA d s
  | .ldBIXH => Sys2Proof.Machine.execLdBIXH s
  | .ldBIXL => Sys2Proof.Machine.execLdBIXL s
  | .ldCIXH => Sys2Proof.Machine.execLdCIXH s
  | .ldCIXL => Sys2Proof.Machine.execLdCIXL s
  | .ldDIXH => Sys2Proof.Machine.execLdDIXH s
  | .ldDIXL => Sys2Proof.Machine.execLdDIXL s
  | .ldEIXH => Sys2Proof.Machine.execLdEIXH s
  | .ldEIXL => Sys2Proof.Machine.execLdEIXL s
  | .ldIXHB => Sys2Proof.Machine.execLdIXHB s
  | .ldIXHC => Sys2Proof.Machine.execLdIXHC s
  | .ldIXHD => Sys2Proof.Machine.execLdIXHD s
  | .ldIXHE => Sys2Proof.Machine.execLdIXHE s
  | .ldIXHIXH => Sys2Proof.Machine.execLdIXHIXH s
  | .ldIXHIXL => Sys2Proof.Machine.execLdIXHIXL s
  | .ldIXHA => Sys2Proof.Machine.execLdIXHA s
  | .ldIXLB => Sys2Proof.Machine.execLdIXLB s
  | .ldIXLC => Sys2Proof.Machine.execLdIXLC s
  | .ldIXLD => Sys2Proof.Machine.execLdIXLD s
  | .ldIXLE => Sys2Proof.Machine.execLdIXLE s
  | .ldIXLIXH => Sys2Proof.Machine.execLdIXLIXH s
  | .ldIXLIXL => Sys2Proof.Machine.execLdIXLIXL s
  | .ldIXLA => Sys2Proof.Machine.execLdIXLA s
  | .ldAIXH => Sys2Proof.Machine.execLdAIXH s
  | .ldAIXL => Sys2Proof.Machine.execLdAIXL s
  | .addAIXH => Sys2Proof.Machine.execAddAIXH s
  | .addAIXL => Sys2Proof.Machine.execAddAIXL s
  | .addAIXd d => Sys2Proof.Machine.execAddAIXd d s
  | .adcAIXH => Sys2Proof.Machine.execAdcAIXH s
  | .adcAIXL => Sys2Proof.Machine.execAdcAIXL s
  | .adcAIXd d => Sys2Proof.Machine.execAdcAIXd d s
  | .subIXH => Sys2Proof.Machine.execSubIXH s
  | .subIXL => Sys2Proof.Machine.execSubIXL s
  | .subIXd d => Sys2Proof.Machine.execSubIXd d s
  | .sbcAIXH => Sys2Proof.Machine.execSbcAIXH s
  | .sbcAIXL => Sys2Proof.Machine.execSbcAIXL s
  | .sbcAIXd d => Sys2Proof.Machine.execSbcAIXd d s
  | .andIXH => Sys2Proof.Machine.execAndIXH s
  | .andIXL => Sys2Proof.Machine.execAndIXL s
  | .andIXd d => Sys2Proof.Machine.execAndIXd d s
  | .xorIXH => Sys2Proof.Machine.execXorIXH s
  | .xorIXL => Sys2Proof.Machine.execXorIXL s
  | .xorIXd d => Sys2Proof.Machine.execXorIXd d s
  | .orIXH => Sys2Proof.Machine.execOrIXH s
  | .orIXL => Sys2Proof.Machine.execOrIXL s
  | .orIXd d => Sys2Proof.Machine.execOrIXd d s
  | .cpIXH => Sys2Proof.Machine.execCpIXH s
  | .cpIXL => Sys2Proof.Machine.execCpIXL s
  | .cpIXd d => Sys2Proof.Machine.execCpIXd d s
  | .popIX => Sys2Proof.Machine.execPopIX s
  | .exIndSPIX => Sys2Proof.Machine.execExIndSPIX s
  | .pushIX => Sys2Proof.Machine.execPushIX s
  | .jpIX => Sys2Proof.Machine.execJpIX s
  | .ldSPIX => Sys2Proof.Machine.execLdSPIX s
  | .rlcIXd d => Sys2Proof.Machine.execRlcIXd d s
  | .rlcIXdR d r => Sys2Proof.Machine.execRlcIXdR d r s
  | .rrcIXd d => Sys2Proof.Machine.execRrcIXd d s
  | .rrcIXdR d r => Sys2Proof.Machine.execRrcIXdR d r s
  | .rlIXd d => Sys2Proof.Machine.execRlIXd d s
  | .rlIXdR d r => Sys2Proof.Machine.execRlIXdR d r s
  | .rrIXd d => Sys2Proof.Machine.execRrIXd d s
  | .rrIXdR d r => Sys2Proof.Machine.execRrIXdR d r s
  | .slaIXd d => Sys2Proof.Machine.execSlaIXd d s
  | .slaIXdR d r => Sys2Proof.Machine.execSlaIXdR d r s
  | .sraIXd d => Sys2Proof.Machine.execSraIXd d s
  | .sraIXdR d r => Sys2Proof.Machine.execSraIXdR d r s
  | .sllIXd d => Sys2Proof.Machine.execSllIXd d s
  | .sllIXdR d r => Sys2Proof.Machine.execSllIXdR d r s
  | .srlIXd d => Sys2Proof.Machine.execSrlIXd d s
  | .srlIXdR d r => Sys2Proof.Machine.execSrlIXdR d r s
  | .bitBIXd b d z => Sys2Proof.Machine.execBitBIXd b d z s
  | .resBIXd b d => Sys2Proof.Machine.execResBIXd b d s
  | .resBIXdR b d r => Sys2Proof.Machine.execResBIXdR b d r s
  | .setBIXd b d => Sys2Proof.Machine.execSetBIXd b d s
  | .setBIXdR b d r => Sys2Proof.Machine.execSetBIXdR b d r s
  | .wastedDD => Sys2Proof.Machine.execWastedDD s
  | .addIYPp pp => Sys2Proof.Machine.execAddIYPp pp s
  | .ldIYNn nn => Sys2Proof.Machine.execLdIYNn nn s
  | .ldIndNnIY nn => Sys2Proof.Machine.execLdIndNnIY nn s
  | .ldIYIndNn nn => Sys2Proof.Machine.execLdIYIndNn nn s
  | .incIY => Sys2Proof.Machine.execIncIY s
  | .decIY => Sys2Proof.Machine.execDecIY s
  | .incIYH => Sys2Proof.Machine.execIncIYH s
  | .incIYL => Sys2Proof.Machine.execIncIYL s
  | .decIYH => Sys2Proof.Machine.execDecIYH s
  | .decIYL => Sys2Proof.Machine.execDecIYL s
  | .ldIYHN n => Sys2Proof.Machine.execLdIYHN n s
  | .ldIYLN n => Sys2Proof.Machine.execLdIYLN n s
  | .incIYd d => Sys2Proof.Machine.execIncIYd d s
  | .decIYd d => Sys2Proof.Machine.execDecIYd d s
  | .ldIYdN d n => Sys2Proof.Machine.execLdIYdN d n s
  | .ldBIYd d => Sys2Proof.Machine.execLdBIYd d s
  | .ldCIYd d => Sys2Proof.Machine.execLdCIYd d s
  | .ldDIYd d => Sys2Proof.Machine.execLdDIYd d s
  | .ldEIYd d => Sys2Proof.Machine.execLdEIYd d s
  | .ldHIYd d => Sys2Proof.Machine.execLdHIYd d s
  | .ldLIYd d => Sys2Proof.Machine.execLdLIYd d s
  | .ldAIYd d => Sys2Proof.Machine.execLdAIYd d s
  | .ldIYdB d => Sys2Proof.Machine.execLdIYdB d s
  | .ldIYdC d => Sys2Proof.Machine.execLdIYdC d s
  | .ldIYdD d => Sys2Proof.Machine.execLdIYdD d s
  | .ldIYdE d => Sys2Proof.Machine.execLdIYdE d s
  | .ldIYdH d => Sys2Proof.Machine.execLdIYdH d s
  | .ldIYdL d => Sys2Proof.Machine.execLdIYdL d s
  | .ldIYdA d => Sys2Proof.Machine.execLdIYdA d s
  | .ldBIYH => Sys2Proof.Machine.execLdBIYH s
  | .ldBIYL => Sys2Proof.Machine.execLdBIYL s
  | .ldCIYH => Sys2Proof.Machine.execLdCIYH s
  | .ldCIYL => Sys2Proof.Machine.execLdCIYL s
  | .ldDIYH => Sys2Proof.Machine.execLdDIYH s
  | .ldDIYL => Sys2Proof.Machine.execLdDIYL s
  | .ldEIYH => Sys2Proof.Machine.execLdEIYH s
  | .ldEIYL => Sys2Proof.Machine.execLdEIYL s
  | .ldIYHB => Sys2Proof.Machine.execLdIYHB s
  | .ldIYHC => Sys2Proof.Machine.execLdIYHC s
  | .ldIYHD => Sys2Proof.Machine.execLdIYHD s
  | .ldIYHE => Sys2Proof.Machine.execLdIYHE s
  | .ldIYHIYH => Sys2Proof.Machine.execLdIYHIYH s
  | .ldIYHIYL => Sys2Proof.Machine.execLdIYHIYL s
  | .ldIYHA => Sys2Proof.Machine.execLdIYHA s
  | .ldIYLB => Sys2Proof.Machine.execLdIYLB s
  | .ldIYLC => Sys2Proof.Machine.execLdIYLC s
  | .ldIYLD => Sys2Proof.Machine.execLdIYLD s
  | .ldIYLE => Sys2Proof.Machine.execLdIYLE s
  | .ldIYLIYH => Sys2Proof.Machine.execLdIYLIYH s
  | .ldIYLIYL => Sys2Proof.Machine.execLdIYLIYL s
  | .ldIYLA => Sys2Proof.Machine.execLdIYLA s
  | .ldAIYH => Sys2Proof.Machine.execLdAIYH s
  | .ldAIYL => Sys2Proof.Machine.execLdAIYL s
  | .addAIYH => Sys2Proof.Machine.execAddAIYH s
  | .addAIYL => Sys2Proof.Machine.execAddAIYL s
  | .addAIYd d => Sys2Proof.Machine.execAddAIYd d s
  | .adcAIYH => Sys2Proof.Machine.execAdcAIYH s
  | .adcAIYL => Sys2Proof.Machine.execAdcAIYL s
  | .adcAIYd d => Sys2Proof.Machine.execAdcAIYd d s
  | .subIYH => Sys2Proof.Machine.execSubIYH s
  | .subIYL => Sys2Proof.Machine.execSubIYL s
  | .subIYd d => Sys2Proof.Machine.execSubIYd d s
  | .sbcAIYH => Sys2Proof.Machine.execSbcAIYH s
  | .sbcAIYL => Sys2Proof.Machine.execSbcAIYL s
  | .sbcAIYd d => Sys2Proof.Machine.execSbcAIYd d s
  | .andIYH => Sys2Proof.Machine.execAndIYH s
  | .andIYL => Sys2Proof.Machine.execAndIYL s
  | .andIYd d => Sys2Proof.Machine.execAndIYd d s
  | .xorIYH => Sys2Proof.Machine.execXorIYH s
  | .xorIYL => Sys2Proof.Machine.execXorIYL s
  | .xorIYd d => Sys2Proof.Machine.execXorIYd d s
  | .orIYH => Sys2Proof.Machine.execOrIYH s
  | .orIYL => Sys2Proof.Machine.execOrIYL s
  | .orIYd d => Sys2Proof.Machine.execOrIYd d s
  | .cpIYH => Sys2Proof.Machine.execCpIYH s
  | .cpIYL => Sys2Proof.Machine.execCpIYL s
  | .cpIYd d => Sys2Proof.Machine.execCpIYd d s
  | .popIY => Sys2Proof.Machine.execPopIY s
  | .exIndSPIY => Sys2Proof.Machine.execExIndSPIY s
  | .pushIY => Sys2Proof.Machine.execPushIY s
  | .jpIY => Sys2Proof.Machine.execJpIY s
  | .ldSPIY => Sys2Proof.Machine.execLdSPIY s
  | .rlcIYd d => Sys2Proof.Machine.execRlcIYd d s
  | .rlcIYdR d r => Sys2Proof.Machine.execRlcIYdR d r s
  | .rrcIYd d => Sys2Proof.Machine.execRrcIYd d s
  | .rrcIYdR d r => Sys2Proof.Machine.execRrcIYdR d r s
  | .rlIYd d => Sys2Proof.Machine.execRlIYd d s
  | .rlIYdR d r => Sys2Proof.Machine.execRlIYdR d r s
  | .rrIYd d => Sys2Proof.Machine.execRrIYd d s
  | .rrIYdR d r => Sys2Proof.Machine.execRrIYdR d r s
  | .slaIYd d => Sys2Proof.Machine.execSlaIYd d s
  | .slaIYdR d r => Sys2Proof.Machine.execSlaIYdR d r s
  | .sraIYd d => Sys2Proof.Machine.execSraIYd d s
  | .sraIYdR d r => Sys2Proof.Machine.execSraIYdR d r s
  | .sllIYd d => Sys2Proof.Machine.execSllIYd d s
  | .sllIYdR d r => Sys2Proof.Machine.execSllIYdR d r s
  | .srlIYd d => Sys2Proof.Machine.execSrlIYd d s
  | .srlIYdR d r => Sys2Proof.Machine.execSrlIYdR d r s
  | .bitBIYd b d z => Sys2Proof.Machine.execBitBIYd b d z s
  | .resBIYd b d => Sys2Proof.Machine.execResBIYd b d s
  | .resBIYdR b d r => Sys2Proof.Machine.execResBIYdR b d r s
  | .setBIYd b d => Sys2Proof.Machine.execSetBIYd b d s
  | .setBIYdR b d r => Sys2Proof.Machine.execSetBIYdR b d r s
  | .wastedFD => Sys2Proof.Machine.execWastedFD s

end Sys2Proof.Machine
end

