-- ==== Sys2Proof/Machine/Step.lean ====
section
/-! DEFINITION. One step of the host loop (spec/40_dispatch.md R130): the host's inputs, an acceptance if one is due (spec/60_exceptions.md R402-R404), else a halt cycle or one execute call. And the state in which a given table word is fetched next. -/

namespace Sys2Proof.Machine

/-- The rest of a step in which nothing is accepted (R130): a halt cycle, or the fetch and one execute call (R131). -/
def runNext (s : State) : Host.Outcome State Fault Refusal :=
  if s.halted then .next (haltCycle s) else exec (decodeAt s) (fetched (decodeAt s) s)

/-- One machine step (R130). -/
def step (s : State) : Host.Outcome State Fault Refusal :=
  match boundary s.sample with
  | .nmi => .next (acceptNmi s.sample)
  | .int => acceptInt s.sample
  | .run => runNext s.sample.clearInhibit

/-- Memory with four bytes of a table word at an address and after it. -/
def placeWord (m : Memory) (a : Word) (nbits w : Nat) : Memory :=
  Memory.write (Memory.write (Memory.write (Memory.write m a.toNat (tableByte nbits w 0)) (a + 1).toNat (tableByte nbits w 1))
    (a + 2).toNat (tableByte nbits w 2)) (a + 3).toNat (tableByte nbits w 3)

/-- The state with a table word stored at PC (the bits above `nbits` zero), in plain RAM, and with nothing that would keep the next step
from fetching it: no halt, no interrupt request and no input of the host waiting (assumption log 17). -/
def State.withFetchWord (s : State) (nbits w : Nat) : State :=
  { s with
    mem := placeWord s.mem s.pc nbits w
    halted := false
    nmiReq := false
    intReq := false
    inputs := []
    params := { s.params with nonRam := [] } }

end Sys2Proof.Machine
end

