-- ==== Sys2Proof/Machine/Run.lean ====
section
/-! DEFINITION. A run of the host loop under the parameter STOP (spec/00_scope.md R8, spec/92_eei_decisions.md D26). -/

namespace Sys2Proof.Machine

/-- A run of at most `n` steps that ends at the first step boundary where the parameter `stop` (STOP: OPEN in D26, "a predicate on the state at
a step boundary") holds. Every predicate is admitted; `State.stopped` is the one D26 takes for its test programs (log 16). -/
def runUntil (stop : State → Bool) : Nat → State → Out
  | 0, s => .next s
  | n + 1, s =>
    if stop s then .next s
    else match step s with
      | .next t => runUntil stop n t
      | .fault e => .fault e
      | .refused e => .refused e

end Sys2Proof.Machine
end

