-- ==== Sys2Proof/Safety.lean ====
section
/-! DEFINITION. The terms the claims use: the invariant of the machine, when it has stopped for good, and the spec's own tables read from spec/opcode_table.json and the rules: which bytes are recognised after a prefix, how long an instruction is, what record and T-states it has, which operand form each row has, and what it may write. -/

namespace Sys2Proof.Machine

/-! ## Runs -/

/-- The invariant every step keeps: memory is in its canonical form; IFF1 is set only when IFF2 is (EI and DI write both, an acceptance
clears IFF1, a return copies IFF2: R36); a halted engine has no inhibit left (R130: a halt cycle resets it). -/
def State.Inv (s : State) : Prop :=
  s.mem.wf = true ∧ (s.iff1 = true → s.iff2 = true) ∧ (s.halted = true → s.intInhibit = .none)

/-- The value D26 takes for its test programs of the open parameter STOP, which `runUntil` has as its argument: halted with the maskable
interrupt disabled (log 16). -/
def State.stopped (s : State) : Bool := s.halted && !s.iff1

/-- No host input that is waiting raises the non-maskable request. -/
def quietInputs (xs : List HostInput) : Prop := ∀ x ∈ xs, x.raiseNmi = false

/-- What a map of next states makes of an answer. -/
def mapNext (f : State → State) (o : Out) : Out :=
  match o with
  | .next t => .next (f t)
  | .fault e => .fault e
  | .refused e => .refused e

/-! ## Encodings -/

/-- The 85 recognised bytes after DD or FD (R138), row by row of its table. -/
def recognisedBytes : List Byte :=
  [
    0x09, 0x19, 0x29, 0x39, 0x21, 0x22, 0x2A, 0x23, 0x2B, 0x24, 0x2C, 0x25, 0x2D, 0x26, 0x2E, 0x34, 0x35,
    0x36, 0x46, 0x4E, 0x56, 0x5E, 0x66, 0x6E, 0x7E, 0x70, 0x71, 0x72, 0x73, 0x74, 0x75, 0x77, 0x44, 0x45,
    0x4C, 0x4D, 0x54, 0x55, 0x5C, 0x5D, 0x7C, 0x7D, 0x60, 0x61, 0x62, 0x63, 0x64, 0x65, 0x67, 0x68, 0x69,
    0x6A, 0x6B, 0x6C, 0x6D, 0x6F, 0x84, 0x85, 0x8C, 0x8D, 0x94, 0x95, 0x9C, 0x9D, 0xA4, 0xA5, 0xAC, 0xAD,
    0xB4, 0xB5, 0xBC, 0xBD, 0x86, 0x8E, 0x96, 0x9E, 0xA6, 0xAE, 0xB6, 0xBE, 0xE1, 0xE3, 0xE5, 0xE9, 0xF9
  ]

/-- Whether a byte is in the recognised set (R138). -/
def recognised (b : Byte) : Bool := recognisedBytes.contains b

/-- What the bytes after an instruction must be for it to be that instruction: after a wasted prefix comes a byte that is neither CB nor
recognised (R136, R139); nothing is asked after any other. -/
def followedBy (i : Instr) (rest : List Byte) : Bool :=
  match i with
  | .wastedDD | .wastedFD =>
    match rest with
    | [] => false
    | b :: _ => b != 0xCB && !recognised b
  | _ => true

/-- The first byte of an instruction. -/
def firstByte (i : Instr) : Byte := (encode i).headD 0

/-- Whether an instruction starts with one of the four prefixes (R100). -/
def prefixed (i : Instr) : Bool :=
  firstByte i == 0xCB || firstByte i == 0xED || firstByte i == 0xDD || firstByte i == 0xFD

/-- The unsupported bytes after ED, as R134 lists their ranges. -/
def unsupportedEd (op : Nat) : Bool :=
  decide (op ≤ 0x3F) || decide (0x80 ≤ op ∧ op ≤ 0x9F) || decide (0xA4 ≤ op ∧ op ≤ 0xA7) || decide (0xAC ≤ op ∧ op ≤ 0xAF) ||
    decide (0xB4 ≤ op ∧ op ≤ 0xB7) || decide (0xBC ≤ op ∧ op ≤ 0xBF) || decide (0xC0 ≤ op)

/-- The length of an instruction from its first two bytes, by the six cases of R117 and the lengths of the table's rows. -/
def lengthFrom (b0 b1 : Byte) : Nat :=
  if b0 = 0xCB then 2
  else if b0 = 0xED then
    (if ([0x43, 0x4B, 0x53, 0x5B, 0x63, 0x6B, 0x73, 0x7B] : List Byte).contains b1 then 4 else 2)
  else if b0 = 0xDD ∨ b0 = 0xFD then
    (if b1 = 0xCB then 4
     else if ([0x21, 0x22, 0x2A, 0x36] : List Byte).contains b1 then 4
     else if ([0x26, 0x2E, 0x34, 0x35, 0x46, 0x4E, 0x56, 0x5E, 0x66, 0x6E, 0x7E, 0x70, 0x71, 0x72, 0x73, 0x74, 0x75, 0x77,
         0x86, 0x8E, 0x96, 0x9E, 0xA6, 0xAE, 0xB6, 0xBE] : List Byte).contains b1 then 3
     else if recognised b1 then 2
     else 1)
  else if ([0x01, 0x11, 0x21, 0x22, 0x2A, 0x31, 0x32, 0x3A, 0xC2, 0xC3, 0xC4, 0xCA, 0xCC, 0xCD, 0xD2, 0xD4, 0xDA, 0xDC, 0xE2, 0xE4, 0xEA, 0xEC, 0xF2, 0xF4, 0xFA, 0xFC] : List Byte).contains b0 then 3
  else if ([0x06, 0x0E, 0x10, 0x16, 0x18, 0x1E, 0x20, 0x26, 0x28, 0x2E, 0x30, 0x36, 0x38, 0x3E, 0xC6, 0xCE, 0xD3, 0xD6, 0xDB, 0xDE, 0xE6, 0xEE, 0xF6, 0xFE] : List Byte).contains b0 then 2
  else 1

/-! ## Records and T-states -/

/-- The record with all four bits false (R144). -/
def plainRecord : Notification := ⟨false, false, false, false⟩

/-- The record an instruction sends, by the lists of R144; a conditional return tests its condition on the flags. -/
def recordOf (i : Instr) (s : State) : Notification :=
  match i with
  | .ret | .reti | .retn _ => ⟨true, false, false, false⟩
  | .retCc cc => ⟨condHolds cc s.flags, false, false, false⟩
  | .halt => ⟨false, true, false, false⟩
  | .ldRpNn rp _ | .ldRpIndNn rp _ => ⟨false, false, rp == .sp, false⟩
  | .ldSPHL | .ldSPIX | .ldSPIY => ⟨false, false, true, false⟩
  | .ei | .di => ⟨false, false, false, true⟩
  | _ => plainRecord

/-- What an execute call leaves besides its operation: one record and its T-states (R144, R145). -/
def State.done (s : State) (n : Notification) (t : Nat) : State :=
  { s with events := .notify n :: s.events, cycles := s.cycles + t }

/-- The port accesses among events. -/
def Event.isPort (e : Event) : Bool :=
  match e with
  | .notify _ => false
  | .portRead _ _ | .portWrite _ _ => true

/-- The T-states of a row of spec/opcode_table.json (R455): taken or repeating, then not taken or last. -/
def tstates (i : Instr) : Nat × Nat :=
  match i with
  | .nop | .exAFAF | .incR _ | .decR _ | .rlca | .rrca | .rla | .rra | .daa | .cpl | .scf | .ccf | .halt | .ldRR _ _ | .addAR _
  | .adcAR _ | .subR _ | .sbcAR _ | .andR _ | .xorR _ | .orR _ | .cpR _ | .exx | .jpHL | .exDEHL | .di | .ei | .wastedDD
  | .wastedFD => (4, 4)
  | .djnz _ => (13, 8)
  | .jr _ | .bitBIndHL _ | .inFPortC | .inRPortC _ | .outPortC0 | .outPortCR _ => (12, 12)
  | .jrCc _ _ => (12, 7)
  | .ldRpNn _ _ | .ldIndHLN _ | .popQq _ | .ret | .jpCcNn _ _ | .jpNn _ | .incIX | .decIX | .ldSPIX | .incIY | .decIY | .ldSPIY => (10, 10)
  | .addHLRp _ | .incIndHL | .decIndHL | .outPortNA _ | .inAPortN _ | .pushQq _ | .rst _ | .ldIXHN _ | .ldIXLN _ | .ldIYHN _
  | .ldIYLN _ => (11, 11)
  | .ldIndBCA | .ldIndDEA | .ldAIndBC | .ldAIndDE | .ldRN _ _ | .ldRIndHL _ | .ldIndHLR _ | .addAIndHL | .adcAIndHL | .subIndHL
  | .sbcAIndHL | .andIndHL | .xorIndHL | .orIndHL | .cpIndHL | .addAN _ | .adcAN _ | .subN _ | .sbcAN _ | .andN _ | .xorN _
  | .orN _ | .cpN _ => (7, 7)
  | .ldIndNnHL _ | .ldHLIndNn _ | .ldi | .cpi | .ini | .outi | .ldd | .cpd | .ind | .outd => (16, 16)
  | .ldIndNnA _ | .ldAIndNn _ => (13, 13)
  | .incRp _ | .decRp _ | .ldSPHL => (6, 6)
  | .retCc _ => (11, 5)
  | .exIndSPHL | .ldIXdN _ _ | .ldBIXd _ | .ldCIXd _ | .ldDIXd _ | .ldEIXd _ | .ldHIXd _ | .ldLIXd _ | .ldAIXd _ | .ldIXdB _
  | .ldIXdC _ | .ldIXdD _ | .ldIXdE _ | .ldIXdH _ | .ldIXdL _ | .ldIXdA _ | .addAIXd _ | .adcAIXd _ | .subIXd _ | .sbcAIXd _
  | .andIXd _ | .xorIXd _ | .orIXd _ | .cpIXd _ | .ldIYdN _ _ | .ldBIYd _ | .ldCIYd _ | .ldDIYd _ | .ldEIYd _ | .ldHIYd _
  | .ldLIYd _ | .ldAIYd _ | .ldIYdB _ | .ldIYdC _ | .ldIYdD _ | .ldIYdE _ | .ldIYdH _ | .ldIYdL _ | .ldIYdA _ | .addAIYd _
  | .adcAIYd _ | .subIYd _ | .sbcAIYd _ | .andIYd _ | .xorIYd _ | .orIYd _ | .cpIYd _ => (19, 19)
  | .callCcNn _ _ => (17, 10)
  | .callNn _ => (17, 17)
  | .rlcIndHL | .rrcIndHL | .rlIndHL | .rrIndHL | .slaIndHL | .sraIndHL | .sllIndHL | .srlIndHL | .resBIndHL _ | .setBIndHL _
  | .sbcHLRp _ | .adcHLRp _ | .addIXPp _ | .pushIX | .addIYPp _ | .pushIY => (15, 15)
  | .rlcR _ | .rrcR _ | .rlR _ | .rrR _ | .slaR _ | .sraR _ | .sllR _ | .srlR _ | .bitBR _ _ | .resBR _ _ | .setBR _ _
  | .unsupportedED00 _ | .unsupportedED80 _ | .unsupportedEDA4 _ | .unsupportedEDC0 _ | .neg _ | .im0 _ | .im1 _ | .im2 _
  | .edNop _ | .incIXH | .incIXL | .decIXH | .decIXL | .ldBIXH | .ldBIXL | .ldCIXH | .ldCIXL | .ldDIXH | .ldDIXL | .ldEIXH
  | .ldEIXL | .ldIXHB | .ldIXHC | .ldIXHD | .ldIXHE | .ldIXHIXH | .ldIXHIXL | .ldIXHA | .ldIXLB | .ldIXLC | .ldIXLD | .ldIXLE
  | .ldIXLIXH | .ldIXLIXL | .ldIXLA | .ldAIXH | .ldAIXL | .addAIXH | .addAIXL | .adcAIXH | .adcAIXL | .subIXH | .subIXL
  | .sbcAIXH | .sbcAIXL | .andIXH | .andIXL | .xorIXH | .xorIXL | .orIXH | .orIXL | .cpIXH | .cpIXL | .jpIX | .incIYH | .incIYL
  | .decIYH | .decIYL | .ldBIYH | .ldBIYL | .ldCIYH | .ldCIYL | .ldDIYH | .ldDIYL | .ldEIYH | .ldEIYL | .ldIYHB | .ldIYHC
  | .ldIYHD | .ldIYHE | .ldIYHIYH | .ldIYHIYL | .ldIYHA | .ldIYLB | .ldIYLC | .ldIYLD | .ldIYLE | .ldIYLIYH | .ldIYLIYL
  | .ldIYLA | .ldAIYH | .ldAIYL | .addAIYH | .addAIYL | .adcAIYH | .adcAIYL | .subIYH | .subIYL | .sbcAIYH | .sbcAIYL | .andIYH
  | .andIYL | .xorIYH | .xorIYL | .orIYH | .orIYL | .cpIYH | .cpIYL | .jpIY => (8, 8)
  | .ldir | .cpir | .inir | .otir | .lddr | .cpdr | .indr | .otdr => (21, 16)
  | .ldIndNnRp _ _ | .ldRpIndNn _ _ | .ldIndNnIX _ | .ldIXIndNn _ | .bitBIXd _ _ _ | .ldIndNnIY _ | .ldIYIndNn _
  | .bitBIYd _ _ _ => (20, 20)
  | .reti | .retn _ | .ldIXNn _ | .popIX | .ldIYNn _ | .popIY => (14, 14)
  | .ldIA | .ldRA | .ldAI | .ldAR => (9, 9)
  | .rrd | .rld => (18, 18)
  | .incIXd _ | .decIXd _ | .exIndSPIX | .rlcIXd _ | .rlcIXdR _ _ | .rrcIXd _ | .rrcIXdR _ _ | .rlIXd _ | .rlIXdR _ _
  | .rrIXd _ | .rrIXdR _ _ | .slaIXd _ | .slaIXdR _ _ | .sraIXd _ | .sraIXdR _ _ | .sllIXd _ | .sllIXdR _ _ | .srlIXd _
  | .srlIXdR _ _ | .resBIXd _ _ | .resBIXdR _ _ _ | .setBIXd _ _ | .setBIXdR _ _ _ | .incIYd _ | .decIYd _ | .exIndSPIY
  | .rlcIYd _ | .rlcIYdR _ _ | .rrcIYd _ | .rrcIYdR _ _ | .rlIYd _ | .rlIYdR _ _ | .rrIYd _ | .rrIYdR _ _ | .slaIYd _
  | .slaIYdR _ _ | .sraIYd _ | .sraIYdR _ _ | .sllIYd _ | .sllIYdR _ _ | .srlIYd _ | .srlIYdR _ _ | .resBIYd _ _
  | .resBIYdR _ _ _ | .setBIYd _ _ | .setBIYdR _ _ _ => (23, 23)

/-- Whether an instruction that has two T-state counts takes its first one (R215, R333, R334, R338, R340), from the state it runs in. -/
def taken (i : Instr) (s : State) : Bool :=
  match i with
  | .jrCc cc _ => condHolds cc.cond s.flags
  | .djnz _ => s.main.b - 1 != 0
  | .callCcNn cc _ | .retCc cc => condHolds cc s.flags
  | .ldir | .lddr => s.main.bc - 1 != 0
  | .cpir | .cpdr => s.main.bc - 1 != 0 && s.main.a - s.memRead .data0 s.main.hl != 0
  | .inir | .indr | .otir | .otdr => s.main.b - 1 != 0
  | _ => true

/-! ## Operand forms -/

/-- The shapes of the rows, with the operands they name. -/
inductive Form where
  /-- The 8-bit loads of R161 to R180 that are not about I or R: destination and source. -/
  | load8 (dst : Loc8) (src : Src8)
  /-- The two-operand ALU rows (R230, R237 to R244): operation and source. -/
  | alu (op : AluOp) (src : Src8)
  /-- The 8-bit INC and DEC rows (R245 to R250): direction and operand. -/
  | incDec (d : Dir) (l : Loc8)
  /-- The rotates and shifts of the CB and DDCB/FDCB tables without a register copy (R306 to R313). -/
  | rot (k : Rot) (l : Loc8)
  /-- The rotates and shifts with a register copy (R304): index register, displacement, register. -/
  | rotCopy (k : Rot) (x : Idx) (d : Byte) (r : Reg8)
  /-- RES (false) and SET (true) without a register copy (R317, R318): bit and operand. -/
  | resSet (on : Bool) (b : Oct) (l : Loc8)
  /-- RES (false) and SET (true) with a register copy (R304). -/
  | resSetCopy (on : Bool) (b : Oct) (x : Idx) (d : Byte) (r : Reg8)
  /-- The rows that may move PC elsewhere (R330 to R343). -/
  | branch
  /-- The block instructions that repeat (R215). -/
  | repeating
  /-- The rows that run the unsupported-ED hook (R135). -/
  | hook
  /-- Every other row. -/
  | other
  deriving DecidableEq, Repr

/-- The shape of each row, from its mnemonic and rule in spec/opcode_table.json. -/
def form (i : Instr) : Form :=
  match i with
  | .ldIndBCA => .load8 (.mem .bc) (.loc (.reg .a))
  | .ldIndDEA => .load8 (.mem .de) (.loc (.reg .a))
  | .ldIndNnA nn => .load8 (.mem (.abs nn)) (.loc (.reg .a))
  | .ldAIndBC => .load8 (.reg .a) (.loc (.mem .bc))
  | .ldAIndDE => .load8 (.reg .a) (.loc (.mem .de))
  | .ldAIndNn nn => .load8 (.reg .a) (.loc (.mem (.abs nn)))
  | .incIndHL => .incDec .inc (.mem .hl)
  | .incR r => .incDec .inc (.reg r)
  | .decIndHL => .incDec .dec (.mem .hl)
  | .decR r => .incDec .dec (.reg r)
  | .ldIndHLN n => .load8 (.mem .hl) (.imm n)
  | .ldRN r n => .load8 (.reg r) (.imm n)
  | .ldRIndHL r => .load8 (.reg r) (.loc (.mem .hl))
  | .ldIndHLR r => .load8 (.mem .hl) (.loc (.reg r))
  | .ldRR r r' => .load8 (.reg r) (.loc (.reg r'))
  | .addAIndHL => .alu .add (.loc (.mem .hl))
  | .addAR r => .alu .add (.loc (.reg r))
  | .adcAIndHL => .alu .adc (.loc (.mem .hl))
  | .adcAR r => .alu .adc (.loc (.reg r))
  | .subIndHL => .alu .sub (.loc (.mem .hl))
  | .subR r => .alu .sub (.loc (.reg r))
  | .sbcAIndHL => .alu .sbc (.loc (.mem .hl))
  | .sbcAR r => .alu .sbc (.loc (.reg r))
  | .andIndHL => .alu .and (.loc (.mem .hl))
  | .andR r => .alu .and (.loc (.reg r))
  | .xorIndHL => .alu .xor (.loc (.mem .hl))
  | .xorR r => .alu .xor (.loc (.reg r))
  | .orIndHL => .alu .or (.loc (.mem .hl))
  | .orR r => .alu .or (.loc (.reg r))
  | .cpIndHL => .alu .cp (.loc (.mem .hl))
  | .cpR r => .alu .cp (.loc (.reg r))
  | .addAN n => .alu .add (.imm n)
  | .adcAN n => .alu .adc (.imm n)
  | .subN n => .alu .sub (.imm n)
  | .sbcAN n => .alu .sbc (.imm n)
  | .andN n => .alu .and (.imm n)
  | .xorN n => .alu .xor (.imm n)
  | .orN n => .alu .or (.imm n)
  | .cpN n => .alu .cp (.imm n)
  | .rlcIndHL => .rot .rlc (.mem .hl)
  | .rlcR r => .rot .rlc (.reg r)
  | .rrcIndHL => .rot .rrc (.mem .hl)
  | .rrcR r => .rot .rrc (.reg r)
  | .rlIndHL => .rot .rl (.mem .hl)
  | .rlR r => .rot .rl (.reg r)
  | .rrIndHL => .rot .rr (.mem .hl)
  | .rrR r => .rot .rr (.reg r)
  | .slaIndHL => .rot .sla (.mem .hl)
  | .slaR r => .rot .sla (.reg r)
  | .sraIndHL => .rot .sra (.mem .hl)
  | .sraR r => .rot .sra (.reg r)
  | .sllIndHL => .rot .sll (.mem .hl)
  | .sllR r => .rot .sll (.reg r)
  | .srlIndHL => .rot .srl (.mem .hl)
  | .srlR r => .rot .srl (.reg r)
  | .resBIndHL b => .resSet false b (.mem .hl)
  | .resBR b r => .resSet false b (.reg r)
  | .setBIndHL b => .resSet true b (.mem .hl)
  | .setBR b r => .resSet true b (.reg r)
  | .incIXH => .incDec .inc (.half .ix .high)
  | .incIXL => .incDec .inc (.half .ix .low)
  | .decIXH => .incDec .dec (.half .ix .high)
  | .decIXL => .incDec .dec (.half .ix .low)
  | .ldIXHN n => .load8 (.half .ix .high) (.imm n)
  | .ldIXLN n => .load8 (.half .ix .low) (.imm n)
  | .incIXd d => .incDec .inc (.mem (.idx .ix d))
  | .decIXd d => .incDec .dec (.mem (.idx .ix d))
  | .ldIXdN d n => .load8 (.mem (.idx .ix d)) (.imm n)
  | .ldBIXd d => .load8 (.reg .b) (.loc (.mem (.idx .ix d)))
  | .ldCIXd d => .load8 (.reg .c) (.loc (.mem (.idx .ix d)))
  | .ldDIXd d => .load8 (.reg .d) (.loc (.mem (.idx .ix d)))
  | .ldEIXd d => .load8 (.reg .e) (.loc (.mem (.idx .ix d)))
  | .ldHIXd d => .load8 (.reg .h) (.loc (.mem (.idx .ix d)))
  | .ldLIXd d => .load8 (.reg .l) (.loc (.mem (.idx .ix d)))
  | .ldAIXd d => .load8 (.reg .a) (.loc (.mem (.idx .ix d)))
  | .ldIXdB d => .load8 (.mem (.idx .ix d)) (.loc (.reg .b))
  | .ldIXdC d => .load8 (.mem (.idx .ix d)) (.loc (.reg .c))
  | .ldIXdD d => .load8 (.mem (.idx .ix d)) (.loc (.reg .d))
  | .ldIXdE d => .load8 (.mem (.idx .ix d)) (.loc (.reg .e))
  | .ldIXdH d => .load8 (.mem (.idx .ix d)) (.loc (.reg .h))
  | .ldIXdL d => .load8 (.mem (.idx .ix d)) (.loc (.reg .l))
  | .ldIXdA d => .load8 (.mem (.idx .ix d)) (.loc (.reg .a))
  | .ldBIXH => .load8 (.reg .b) (.loc (.half .ix .high))
  | .ldBIXL => .load8 (.reg .b) (.loc (.half .ix .low))
  | .ldCIXH => .load8 (.reg .c) (.loc (.half .ix .high))
  | .ldCIXL => .load8 (.reg .c) (.loc (.half .ix .low))
  | .ldDIXH => .load8 (.reg .d) (.loc (.half .ix .high))
  | .ldDIXL => .load8 (.reg .d) (.loc (.half .ix .low))
  | .ldEIXH => .load8 (.reg .e) (.loc (.half .ix .high))
  | .ldEIXL => .load8 (.reg .e) (.loc (.half .ix .low))
  | .ldIXHB => .load8 (.half .ix .high) (.loc (.reg .b))
  | .ldIXHC => .load8 (.half .ix .high) (.loc (.reg .c))
  | .ldIXHD => .load8 (.half .ix .high) (.loc (.reg .d))
  | .ldIXHE => .load8 (.half .ix .high) (.loc (.reg .e))
  | .ldIXHIXH => .load8 (.half .ix .high) (.loc (.half .ix .high))
  | .ldIXHIXL => .load8 (.half .ix .high) (.loc (.half .ix .low))
  | .ldIXHA => .load8 (.half .ix .high) (.loc (.reg .a))
  | .ldIXLB => .load8 (.half .ix .low) (.loc (.reg .b))
  | .ldIXLC => .load8 (.half .ix .low) (.loc (.reg .c))
  | .ldIXLD => .load8 (.half .ix .low) (.loc (.reg .d))
  | .ldIXLE => .load8 (.half .ix .low) (.loc (.reg .e))
  | .ldIXLIXH => .load8 (.half .ix .low) (.loc (.half .ix .high))
  | .ldIXLIXL => .load8 (.half .ix .low) (.loc (.half .ix .low))
  | .ldIXLA => .load8 (.half .ix .low) (.loc (.reg .a))
  | .ldAIXH => .load8 (.reg .a) (.loc (.half .ix .high))
  | .ldAIXL => .load8 (.reg .a) (.loc (.half .ix .low))
  | .addAIXH => .alu .add (.loc (.half .ix .high))
  | .addAIXL => .alu .add (.loc (.half .ix .low))
  | .addAIXd d => .alu .add (.loc (.mem (.idx .ix d)))
  | .adcAIXH => .alu .adc (.loc (.half .ix .high))
  | .adcAIXL => .alu .adc (.loc (.half .ix .low))
  | .adcAIXd d => .alu .adc (.loc (.mem (.idx .ix d)))
  | .subIXH => .alu .sub (.loc (.half .ix .high))
  | .subIXL => .alu .sub (.loc (.half .ix .low))
  | .subIXd d => .alu .sub (.loc (.mem (.idx .ix d)))
  | .sbcAIXH => .alu .sbc (.loc (.half .ix .high))
  | .sbcAIXL => .alu .sbc (.loc (.half .ix .low))
  | .sbcAIXd d => .alu .sbc (.loc (.mem (.idx .ix d)))
  | .andIXH => .alu .and (.loc (.half .ix .high))
  | .andIXL => .alu .and (.loc (.half .ix .low))
  | .andIXd d => .alu .and (.loc (.mem (.idx .ix d)))
  | .xorIXH => .alu .xor (.loc (.half .ix .high))
  | .xorIXL => .alu .xor (.loc (.half .ix .low))
  | .xorIXd d => .alu .xor (.loc (.mem (.idx .ix d)))
  | .orIXH => .alu .or (.loc (.half .ix .high))
  | .orIXL => .alu .or (.loc (.half .ix .low))
  | .orIXd d => .alu .or (.loc (.mem (.idx .ix d)))
  | .cpIXH => .alu .cp (.loc (.half .ix .high))
  | .cpIXL => .alu .cp (.loc (.half .ix .low))
  | .cpIXd d => .alu .cp (.loc (.mem (.idx .ix d)))
  | .rlcIXd d => .rot .rlc (.mem (.idx .ix d))
  | .rlcIXdR d r => .rotCopy .rlc .ix d r
  | .rrcIXd d => .rot .rrc (.mem (.idx .ix d))
  | .rrcIXdR d r => .rotCopy .rrc .ix d r
  | .rlIXd d => .rot .rl (.mem (.idx .ix d))
  | .rlIXdR d r => .rotCopy .rl .ix d r
  | .rrIXd d => .rot .rr (.mem (.idx .ix d))
  | .rrIXdR d r => .rotCopy .rr .ix d r
  | .slaIXd d => .rot .sla (.mem (.idx .ix d))
  | .slaIXdR d r => .rotCopy .sla .ix d r
  | .sraIXd d => .rot .sra (.mem (.idx .ix d))
  | .sraIXdR d r => .rotCopy .sra .ix d r
  | .sllIXd d => .rot .sll (.mem (.idx .ix d))
  | .sllIXdR d r => .rotCopy .sll .ix d r
  | .srlIXd d => .rot .srl (.mem (.idx .ix d))
  | .srlIXdR d r => .rotCopy .srl .ix d r
  | .resBIXd b d => .resSet false b (.mem (.idx .ix d))
  | .resBIXdR b d r => .resSetCopy false b .ix d r
  | .setBIXd b d => .resSet true b (.mem (.idx .ix d))
  | .setBIXdR b d r => .resSetCopy true b .ix d r
  | .incIYH => .incDec .inc (.half .iy .high)
  | .incIYL => .incDec .inc (.half .iy .low)
  | .decIYH => .incDec .dec (.half .iy .high)
  | .decIYL => .incDec .dec (.half .iy .low)
  | .ldIYHN n => .load8 (.half .iy .high) (.imm n)
  | .ldIYLN n => .load8 (.half .iy .low) (.imm n)
  | .incIYd d => .incDec .inc (.mem (.idx .iy d))
  | .decIYd d => .incDec .dec (.mem (.idx .iy d))
  | .ldIYdN d n => .load8 (.mem (.idx .iy d)) (.imm n)
  | .ldBIYd d => .load8 (.reg .b) (.loc (.mem (.idx .iy d)))
  | .ldCIYd d => .load8 (.reg .c) (.loc (.mem (.idx .iy d)))
  | .ldDIYd d => .load8 (.reg .d) (.loc (.mem (.idx .iy d)))
  | .ldEIYd d => .load8 (.reg .e) (.loc (.mem (.idx .iy d)))
  | .ldHIYd d => .load8 (.reg .h) (.loc (.mem (.idx .iy d)))
  | .ldLIYd d => .load8 (.reg .l) (.loc (.mem (.idx .iy d)))
  | .ldAIYd d => .load8 (.reg .a) (.loc (.mem (.idx .iy d)))
  | .ldIYdB d => .load8 (.mem (.idx .iy d)) (.loc (.reg .b))
  | .ldIYdC d => .load8 (.mem (.idx .iy d)) (.loc (.reg .c))
  | .ldIYdD d => .load8 (.mem (.idx .iy d)) (.loc (.reg .d))
  | .ldIYdE d => .load8 (.mem (.idx .iy d)) (.loc (.reg .e))
  | .ldIYdH d => .load8 (.mem (.idx .iy d)) (.loc (.reg .h))
  | .ldIYdL d => .load8 (.mem (.idx .iy d)) (.loc (.reg .l))
  | .ldIYdA d => .load8 (.mem (.idx .iy d)) (.loc (.reg .a))
  | .ldBIYH => .load8 (.reg .b) (.loc (.half .iy .high))
  | .ldBIYL => .load8 (.reg .b) (.loc (.half .iy .low))
  | .ldCIYH => .load8 (.reg .c) (.loc (.half .iy .high))
  | .ldCIYL => .load8 (.reg .c) (.loc (.half .iy .low))
  | .ldDIYH => .load8 (.reg .d) (.loc (.half .iy .high))
  | .ldDIYL => .load8 (.reg .d) (.loc (.half .iy .low))
  | .ldEIYH => .load8 (.reg .e) (.loc (.half .iy .high))
  | .ldEIYL => .load8 (.reg .e) (.loc (.half .iy .low))
  | .ldIYHB => .load8 (.half .iy .high) (.loc (.reg .b))
  | .ldIYHC => .load8 (.half .iy .high) (.loc (.reg .c))
  | .ldIYHD => .load8 (.half .iy .high) (.loc (.reg .d))
  | .ldIYHE => .load8 (.half .iy .high) (.loc (.reg .e))
  | .ldIYHIYH => .load8 (.half .iy .high) (.loc (.half .iy .high))
  | .ldIYHIYL => .load8 (.half .iy .high) (.loc (.half .iy .low))
  | .ldIYHA => .load8 (.half .iy .high) (.loc (.reg .a))
  | .ldIYLB => .load8 (.half .iy .low) (.loc (.reg .b))
  | .ldIYLC => .load8 (.half .iy .low) (.loc (.reg .c))
  | .ldIYLD => .load8 (.half .iy .low) (.loc (.reg .d))
  | .ldIYLE => .load8 (.half .iy .low) (.loc (.reg .e))
  | .ldIYLIYH => .load8 (.half .iy .low) (.loc (.half .iy .high))
  | .ldIYLIYL => .load8 (.half .iy .low) (.loc (.half .iy .low))
  | .ldIYLA => .load8 (.half .iy .low) (.loc (.reg .a))
  | .ldAIYH => .load8 (.reg .a) (.loc (.half .iy .high))
  | .ldAIYL => .load8 (.reg .a) (.loc (.half .iy .low))
  | .addAIYH => .alu .add (.loc (.half .iy .high))
  | .addAIYL => .alu .add (.loc (.half .iy .low))
  | .addAIYd d => .alu .add (.loc (.mem (.idx .iy d)))
  | .adcAIYH => .alu .adc (.loc (.half .iy .high))
  | .adcAIYL => .alu .adc (.loc (.half .iy .low))
  | .adcAIYd d => .alu .adc (.loc (.mem (.idx .iy d)))
  | .subIYH => .alu .sub (.loc (.half .iy .high))
  | .subIYL => .alu .sub (.loc (.half .iy .low))
  | .subIYd d => .alu .sub (.loc (.mem (.idx .iy d)))
  | .sbcAIYH => .alu .sbc (.loc (.half .iy .high))
  | .sbcAIYL => .alu .sbc (.loc (.half .iy .low))
  | .sbcAIYd d => .alu .sbc (.loc (.mem (.idx .iy d)))
  | .andIYH => .alu .and (.loc (.half .iy .high))
  | .andIYL => .alu .and (.loc (.half .iy .low))
  | .andIYd d => .alu .and (.loc (.mem (.idx .iy d)))
  | .xorIYH => .alu .xor (.loc (.half .iy .high))
  | .xorIYL => .alu .xor (.loc (.half .iy .low))
  | .xorIYd d => .alu .xor (.loc (.mem (.idx .iy d)))
  | .orIYH => .alu .or (.loc (.half .iy .high))
  | .orIYL => .alu .or (.loc (.half .iy .low))
  | .orIYd d => .alu .or (.loc (.mem (.idx .iy d)))
  | .cpIYH => .alu .cp (.loc (.half .iy .high))
  | .cpIYL => .alu .cp (.loc (.half .iy .low))
  | .cpIYd d => .alu .cp (.loc (.mem (.idx .iy d)))
  | .rlcIYd d => .rot .rlc (.mem (.idx .iy d))
  | .rlcIYdR d r => .rotCopy .rlc .iy d r
  | .rrcIYd d => .rot .rrc (.mem (.idx .iy d))
  | .rrcIYdR d r => .rotCopy .rrc .iy d r
  | .rlIYd d => .rot .rl (.mem (.idx .iy d))
  | .rlIYdR d r => .rotCopy .rl .iy d r
  | .rrIYd d => .rot .rr (.mem (.idx .iy d))
  | .rrIYdR d r => .rotCopy .rr .iy d r
  | .slaIYd d => .rot .sla (.mem (.idx .iy d))
  | .slaIYdR d r => .rotCopy .sla .iy d r
  | .sraIYd d => .rot .sra (.mem (.idx .iy d))
  | .sraIYdR d r => .rotCopy .sra .iy d r
  | .sllIYd d => .rot .sll (.mem (.idx .iy d))
  | .sllIYdR d r => .rotCopy .sll .iy d r
  | .srlIYd d => .rot .srl (.mem (.idx .iy d))
  | .srlIYdR d r => .rotCopy .srl .iy d r
  | .resBIYd b d => .resSet false b (.mem (.idx .iy d))
  | .resBIYdR b d r => .resSetCopy false b .iy d r
  | .setBIYd b d => .resSet true b (.mem (.idx .iy d))
  | .setBIYdR b d r => .resSetCopy true b .iy d r
  | .djnz _ | .jr _ | .jrCc _ _ | .retCc _ | .ret | .jpHL | .jpCcNn _ _ | .jpNn _ | .callCcNn _ _ | .callNn _ | .rst _ | .reti
  | .retn _ | .jpIX | .jpIY => .branch
  | .ldir | .cpir | .inir | .otir | .lddr | .cpdr | .indr | .otdr => .repeating
  | .unsupportedED00 _ | .unsupportedED80 _ | .unsupportedEDA4 _ | .unsupportedEDC0 _ => .hook
  | .nop | .exAFAF | .ldRpNn _ _ | .addHLRp _ | .ldIndNnHL _ | .ldHLIndNn _ | .incRp _ | .decRp _ | .rlca | .rrca | .rla | .rra
  | .daa | .cpl | .scf | .ccf | .halt | .popQq _ | .exx | .ldSPHL | .outPortNA _ | .inAPortN _ | .exIndSPHL | .exDEHL | .di
  | .ei | .pushQq _ | .bitBIndHL _ | .bitBR _ _ | .ldi | .cpi | .ini | .outi | .ldd | .cpd | .ind | .outd | .inFPortC
  | .inRPortC _ | .outPortC0 | .outPortCR _ | .sbcHLRp _ | .adcHLRp _ | .ldIndNnRp _ _ | .ldRpIndNn _ _ | .neg _ | .im0 _
  | .im1 _ | .im2 _ | .ldIA | .ldRA | .ldAI | .ldAR | .rrd | .rld | .edNop _ | .addIXPp _ | .ldIXNn _ | .ldIndNnIX _
  | .ldIXIndNn _ | .incIX | .decIX | .popIX | .exIndSPIX | .pushIX | .ldSPIX | .bitBIXd _ _ _ | .wastedDD | .addIYPp _
  | .ldIYNn _ | .ldIndNnIY _ | .ldIYIndNn _ | .incIY | .decIY | .popIY | .exIndSPIY | .pushIY | .ldSPIY | .bitBIYd _ _ _
  | .wastedFD => .other

/-- `k` execute calls of one instruction, each with its own fetch: what a repeating block instruction does while its bytes stay (R215). -/
def repeated (i : Instr) : Nat → State → Out
  | 0, s => .next s
  | k + 1, s =>
    match repeated i k s with
    | .next t => exec i (fetched i t)
    | .fault e => .fault e
    | .refused e => .refused e

/-! ## Numbers and bits -/

/-- `sext_8` as an integer (R11). -/
def sextInt (d : Byte) : Int := if d.getLsbD 7 then (d.toNat : Int) - 256 else (d.toNat : Int)

/-- Bit `j` of the result of a rotate or shift (the table of R305), from the bits of the operand and the carry flag. -/
def rotBit (k : Rot) (v : Byte) (cin : Bool) (j : Nat) : Bool :=
  match k with
  | .rlc => v.getLsbD ((j + 7) % 8)
  | .rrc => v.getLsbD ((j + 1) % 8)
  | .rl => if j = 0 then cin else v.getLsbD (j - 1)
  | .rr => if j = 7 then cin else v.getLsbD (j + 1)
  | .sla => if j = 0 then false else v.getLsbD (j - 1)
  | .sra => if j = 7 then v.getLsbD 7 else v.getLsbD (j + 1)
  | .sll => if j = 0 then true else v.getLsbD (j - 1)
  | .srl => if j = 7 then false else v.getLsbD (j + 1)

/-- The bit a rotate or shift moves out (the table of R305). -/
def rotOut (k : Rot) (v : Byte) : Bool :=
  match k with
  | .rlc | .rl | .sla | .sll => v.getLsbD 7
  | .rrc | .rr | .sra | .srl => v.getLsbD 0

/-- A byte from its bits. -/
def byteOf (f : Nat → Bool) : Byte :=
  BitVec.ofNat 8 ((f 0).toNat + (f 1).toNat * 2 + (f 2).toNat * 4 + (f 3).toNat * 8 +
    (f 4).toNat * 16 + (f 5).toNat * 32 + (f 6).toNat * 64 + (f 7).toNat * 128)

/-- The result of a rotate or shift, bit by bit (R305). -/
def rotByte (k : Rot) (v : Byte) (cin : Bool) : Byte := byteOf (rotBit k v cin)

/-- The result of RES (false) or SET (true) on bit `b`, bit by bit (R317, R318). -/
def resSetByte (on : Bool) (b : Oct) (v : Byte) : Byte :=
  byteOf (fun j => if j = b.toNat then on else v.getLsbD j)

/-- The number of 1 bits of a byte. -/
def onesIn (v : Byte) : Nat :=
  (v.getLsbD 0).toNat + (v.getLsbD 1).toNat + (v.getLsbD 2).toNat + (v.getLsbD 3).toNat +
    (v.getLsbD 4).toNat + (v.getLsbD 5).toNat + (v.getLsbD 6).toNat + (v.getLsbD 7).toNat

/-- S, Z, F5 and F3 from a byte, the flags every 8-bit result sets alike (R29, R30), over the flags of `fl`. -/
def Flags.ofResult (r : Byte) (fl : Flags) : Flags :=
  { fl with s := r.getLsbD 7, z := decide (r = 0), f5 := r.getLsbD 5, f3 := r.getLsbD 3 }

/-- The packed BCD byte of a number below 100. -/
def bcd (n : Nat) : Byte := BitVec.ofNat 8 (n / 10 * 16 + n % 10)

/-! ## Memory and the stack -/

/-- Every byte of memory outside a list of addresses reads as before. -/
def bytesKept (s t : State) (addrs : List Word) : Prop :=
  ∀ (acc : Config.Access) (a : Word), a ∉ addrs → t.memRead acc a = s.memRead acc a

/-- `t` holds the word `v` pushed on the stack of `s` (R66): SP lower by 2, the high byte at SP-1, the low byte at SP-2 (in plain RAM),
every other byte as before. -/
structure Pushed (s t : State) (v : Word) : Prop where
  sp : t.sp = s.sp - 2
  high : s.mem.wf = true → s.isRam (s.sp - 1) = true → ∀ acc, t.memRead acc (s.sp - 1) = hiByte v
  low : s.mem.wf = true → s.isRam (s.sp - 2) = true → ∀ acc, t.memRead acc (s.sp - 2) = loByte v
  others : bytesKept s t [s.sp - 1, s.sp - 2]

/-- What every maskable entry leaves (R405): the enables and the inhibit cleared, the halt ended, R counted once, PC pushed, and every
register that R405 does not name as it was, the flags among them; no record is sent. -/
structure Entered (s t : State) : Prop where
  iff1 : t.iff1 = false
  iff2 : t.iff2 = false
  halted : t.halted = false
  intInhibit : t.intInhibit = .none
  r : t.r = refreshAdd s.r 1
  pushed : Pushed s t s.pc
  rest : t = { s with iff1 := t.iff1, iff2 := t.iff2, halted := t.halted, intInhibit := t.intInhibit, r := t.r, sp := t.sp, mem := t.mem, pc := t.pc, cycles := t.cycles }

/-! ## What an instruction may write -/

/-- A piece of state that is not memory and not PC: an 8-bit register, a flag, the shadow bank, or a register of its own. -/
inductive Item where
  | reg (r : Reg8)
  | flagS | flagZ | flagF5 | flagH | flagF3 | flagPV | flagN | flagC
  | shadow | ix | iy | sp | regI | regR | iff1 | iff2 | im | halted | intInhibit
  deriving DecidableEq, Repr

/-- Whether a piece of state is the same in two states. -/
def Item.same (x : Item) (s t : State) : Prop :=
  match x with
  | .reg r => t.reg r = s.reg r
  | .flagS => t.flags.s = s.flags.s
  | .flagZ => t.flags.z = s.flags.z
  | .flagF5 => t.flags.f5 = s.flags.f5
  | .flagH => t.flags.h = s.flags.h
  | .flagF3 => t.flags.f3 = s.flags.f3
  | .flagPV => t.flags.pv = s.flags.pv
  | .flagN => t.flags.n = s.flags.n
  | .flagC => t.flags.c = s.flags.c
  | .shadow => t.alt = s.alt
  | .ix => t.ix = s.ix
  | .iy => t.iy = s.iy
  | .sp => t.sp = s.sp
  | .regI => t.i = s.i
  | .regR => t.r = s.r
  | .iff1 => t.iff1 = s.iff1
  | .iff2 => t.iff2 = s.iff2
  | .im => t.im = s.im
  | .halted => t.halted = s.halted
  | .intInhibit => t.intInhibit = s.intInhibit

/-- S, Z, F5, H, F3, P/V and N. -/
def flagsButC : List Item := [.flagS, .flagZ, .flagF5, .flagH, .flagF3, .flagPV, .flagN]

/-- All eight flags. -/
def allFlags : List Item := .flagC :: flagsButC

/-- The pieces of state of a 16-bit register (R22, R23). -/
def Reg16.items (q : Reg16) : List Item :=
  match q with
  | .bc => [.reg .b, .reg .c]
  | .de => [.reg .d, .reg .e]
  | .hl => [.reg .h, .reg .l]
  | .sp => [.sp]
  | .af => .reg .a :: allFlags
  | .ix => [.ix]
  | .iy => [.iy]

/-- The registers and flags that the rule of each row says it writes (R160 to R374; R35 to R38 for the control registers). PC and memory stand apart. -/
def writes (i : Instr) : List Item :=
  match i with
  | .nop | .jr _ | .jrCc _ _ | .ldIndBCA | .ldIndDEA | .ldIndNnHL _ | .ldIndNnA _ | .ldIndHLN _ | .ldIndHLR _ | .jpHL
  | .jpCcNn _ _ | .jpNn _ | .outPortNA _ | .resBIndHL _ | .setBIndHL _ | .unsupportedED00 _ | .unsupportedED80 _
  | .unsupportedEDA4 _ | .unsupportedEDC0 _ | .outPortC0 | .outPortCR _ | .ldIndNnRp _ _ | .edNop _ | .ldIndNnIX _
  | .ldIXdN _ _ | .ldIXdB _ | .ldIXdC _ | .ldIXdD _ | .ldIXdE _ | .ldIXdH _ | .ldIXdL _ | .ldIXdA _ | .jpIX | .resBIXd _ _
  | .setBIXd _ _ | .ldIndNnIY _ | .ldIYdN _ _ | .ldIYdB _ | .ldIYdC _ | .ldIYdD _ | .ldIYdE _ | .ldIYdH _ | .ldIYdL _
  | .ldIYdA _ | .jpIY | .resBIYd _ _ | .setBIYd _ _ => []
  | .exAFAF => [.reg .a, .shadow] ++ allFlags
  | .djnz _ | .ldBIXd _ | .ldBIXH | .ldBIXL | .ldBIYd _ | .ldBIYH | .ldBIYL => [.reg .b]
  | .ldRpNn rp _ | .incRp rp | .decRp rp | .ldRpIndNn rp _ => (pairReg rp).items
  | .addHLRp _ => Reg16.hl.items ++ [.flagH, .flagN, .flagC, .flagF5, .flagF3]
  | .ldAIndBC | .ldAIndDE | .ldAIndNn _ | .inAPortN _ | .ldAIXd _ | .ldAIXH | .ldAIXL | .ldAIYd _ | .ldAIYH | .ldAIYL => [.reg .a]
  | .ldHLIndNn _ | .exIndSPHL => Reg16.hl.items
  | .incIndHL | .decIndHL | .bitBIndHL _ | .bitBR _ _ | .inFPortC | .incIXd _ | .decIXd _ | .bitBIXd _ _ _ | .incIYd _
  | .decIYd _ | .bitBIYd _ _ _ => flagsButC
  | .incR r | .decR r | .inRPortC r => [.reg r] ++ flagsButC
  | .ldRN r _ | .ldRIndHL r | .ldRR r _ | .resBR _ r | .setBR _ r | .resBIXdR _ _ r | .setBIXdR _ _ r | .resBIYdR _ _ r
  | .setBIYdR _ _ r => [.reg r]
  | .rlca | .rrca | .rla | .rra => [.reg .a, .flagC, .flagH, .flagN, .flagF5, .flagF3]
  | .daa => [.reg .a, .flagC, .flagS, .flagZ, .flagF5, .flagH, .flagF3, .flagPV]
  | .cpl => [.reg .a, .flagH, .flagN, .flagF5, .flagF3]
  | .scf | .ccf => [.flagC, .flagH, .flagN, .flagF5, .flagF3]
  | .halt => [.halted]
  | .addAIndHL | .addAR _ | .adcAIndHL | .adcAR _ | .subIndHL | .subR _ | .sbcAIndHL | .sbcAR _ | .andIndHL | .andR _
  | .xorIndHL | .xorR _ | .orIndHL | .orR _ | .addAN _ | .adcAN _ | .subN _ | .sbcAN _ | .andN _ | .xorN _ | .orN _ | .neg _
  | .addAIXH | .addAIXL | .addAIXd _ | .adcAIXH | .adcAIXL | .adcAIXd _ | .subIXH | .subIXL | .subIXd _ | .sbcAIXH | .sbcAIXL
  | .sbcAIXd _ | .andIXH | .andIXL | .andIXd _ | .xorIXH | .xorIXL | .xorIXd _ | .orIXH | .orIXL | .orIXd _ | .addAIYH
  | .addAIYL | .addAIYd _ | .adcAIYH | .adcAIYL | .adcAIYd _ | .subIYH | .subIYL | .subIYd _ | .sbcAIYH | .sbcAIYL | .sbcAIYd _
  | .andIYH | .andIYL | .andIYd _ | .xorIYH | .xorIYL | .xorIYd _ | .orIYH | .orIYL | .orIYd _ => [.reg .a] ++ allFlags
  | .cpIndHL | .cpR _ | .cpN _ | .rlcIndHL | .rrcIndHL | .rlIndHL | .rrIndHL | .slaIndHL | .sraIndHL | .sllIndHL | .srlIndHL
  | .cpIXH | .cpIXL | .cpIXd _ | .rlcIXd _ | .rrcIXd _ | .rlIXd _ | .rrIXd _ | .slaIXd _ | .sraIXd _ | .sllIXd _ | .srlIXd _
  | .cpIYH | .cpIYL | .cpIYd _ | .rlcIYd _ | .rrcIYd _ | .rlIYd _ | .rrIYd _ | .slaIYd _ | .sraIYd _ | .sllIYd _ | .srlIYd _ => allFlags
  | .retCc _ | .ret | .ldSPHL | .callCcNn _ _ | .pushQq _ | .callNn _ | .rst _ | .pushIX | .ldSPIX | .pushIY | .ldSPIY => [.sp]
  | .popQq qq => [.sp] ++ (stackReg qq).items
  | .exx => [.reg .b, .reg .c, .reg .d, .reg .e, .reg .h, .reg .l, .shadow]
  | .exDEHL => Reg16.de.items ++ Reg16.hl.items
  | .di => [.iff1, .iff2]
  | .ei => [.iff1, .iff2, .intInhibit]
  | .rlcR r | .rrcR r | .rlR r | .rrR r | .slaR r | .sraR r | .sllR r | .srlR r | .rlcIXdR _ r | .rrcIXdR _ r | .rlIXdR _ r
  | .rrIXdR _ r | .slaIXdR _ r | .sraIXdR _ r | .sllIXdR _ r | .srlIXdR _ r | .rlcIYdR _ r | .rrcIYdR _ r | .rlIYdR _ r
  | .rrIYdR _ r | .slaIYdR _ r | .sraIYdR _ r | .sllIYdR _ r | .srlIYdR _ r => [.reg r] ++ allFlags
  | .ldi | .ldd | .ldir | .lddr => Reg16.bc.items ++ Reg16.de.items ++ Reg16.hl.items ++ [.flagH, .flagN, .flagPV, .flagF3, .flagF5]
  | .cpi | .cpd | .cpir | .cpdr => Reg16.bc.items ++ Reg16.hl.items ++ flagsButC
  | .ini | .outi | .ind | .outd | .inir | .otir | .indr | .otdr => [.reg .b] ++ Reg16.hl.items ++ allFlags
  | .sbcHLRp _ | .adcHLRp _ => Reg16.hl.items ++ allFlags
  | .reti | .retn _ => [.sp, .iff1]
  | .im0 _ | .im1 _ | .im2 _ => [.im]
  | .ldIA => [.regI]
  | .ldRA => [.regR]
  | .ldAI | .ldAR | .rrd | .rld => [.reg .a] ++ flagsButC
  | .addIXPp _ => [.ix, .flagH, .flagN, .flagC, .flagF5, .flagF3]
  | .ldIXNn _ | .ldIXIndNn _ | .incIX | .decIX | .ldIXHN _ | .ldIXLN _ | .ldIXHB | .ldIXHC | .ldIXHD | .ldIXHE | .ldIXHIXH
  | .ldIXHIXL | .ldIXHA | .ldIXLB | .ldIXLC | .ldIXLD | .ldIXLE | .ldIXLIXH | .ldIXLIXL | .ldIXLA | .exIndSPIX => [.ix]
  | .incIXH | .incIXL | .decIXH | .decIXL => [.ix] ++ flagsButC
  | .ldCIXd _ | .ldCIXH | .ldCIXL | .ldCIYd _ | .ldCIYH | .ldCIYL => [.reg .c]
  | .ldDIXd _ | .ldDIXH | .ldDIXL | .ldDIYd _ | .ldDIYH | .ldDIYL => [.reg .d]
  | .ldEIXd _ | .ldEIXH | .ldEIXL | .ldEIYd _ | .ldEIYH | .ldEIYL => [.reg .e]
  | .ldHIXd _ | .ldHIYd _ => [.reg .h]
  | .ldLIXd _ | .ldLIYd _ => [.reg .l]
  | .popIX => [.sp, .ix]
  | .wastedDD | .wastedFD => [.regR, .intInhibit]
  | .addIYPp _ => [.iy, .flagH, .flagN, .flagC, .flagF5, .flagF3]
  | .ldIYNn _ | .ldIYIndNn _ | .incIY | .decIY | .ldIYHN _ | .ldIYLN _ | .ldIYHB | .ldIYHC | .ldIYHD | .ldIYHE | .ldIYHIYH
  | .ldIYHIYL | .ldIYHA | .ldIYLB | .ldIYLC | .ldIYLD | .ldIYLE | .ldIYLIYH | .ldIYLIYL | .ldIYLA | .exIndSPIY => [.iy]
  | .incIYH | .incIYL | .decIYH | .decIYL => [.iy] ++ flagsButC
  | .popIY => [.sp, .iy]

/-- The addresses of the bytes a row stores (R61), in the state it runs in. -/
def storeAddrs (i : Instr) (s : State) : List Word :=
  match i with
  | .nop | .exAFAF | .djnz _ | .jr _ | .jrCc _ _ | .ldRpNn _ _ | .addHLRp _ | .ldAIndBC | .ldAIndDE | .ldHLIndNn _
  | .ldAIndNn _ | .incRp _ | .decRp _ | .incR _ | .decR _ | .ldRN _ _ | .rlca | .rrca | .rla | .rra | .daa | .cpl | .scf | .ccf
  | .halt | .ldRIndHL _ | .ldRR _ _ | .addAIndHL | .addAR _ | .adcAIndHL | .adcAR _ | .subIndHL | .subR _ | .sbcAIndHL
  | .sbcAR _ | .andIndHL | .andR _ | .xorIndHL | .xorR _ | .orIndHL | .orR _ | .cpIndHL | .cpR _ | .retCc _ | .popQq _ | .ret
  | .exx | .jpHL | .ldSPHL | .jpCcNn _ _ | .jpNn _ | .outPortNA _ | .inAPortN _ | .exDEHL | .di | .ei | .addAN _ | .adcAN _
  | .subN _ | .sbcAN _ | .andN _ | .xorN _ | .orN _ | .cpN _ | .rlcR _ | .rrcR _ | .rlR _ | .rrR _ | .slaR _ | .sraR _
  | .sllR _ | .srlR _ | .bitBIndHL _ | .bitBR _ _ | .resBR _ _ | .setBR _ _ | .unsupportedED00 _ | .unsupportedED80 _
  | .unsupportedEDA4 _ | .unsupportedEDC0 _ | .cpi | .outi | .cpd | .outd | .cpir | .otir | .cpdr | .otdr | .inFPortC
  | .inRPortC _ | .outPortC0 | .outPortCR _ | .sbcHLRp _ | .adcHLRp _ | .ldRpIndNn _ _ | .neg _ | .reti | .retn _ | .im0 _
  | .im1 _ | .im2 _ | .ldIA | .ldRA | .ldAI | .ldAR | .edNop _ | .addIXPp _ | .ldIXNn _ | .ldIXIndNn _ | .incIX | .decIX
  | .incIXH | .incIXL | .decIXH | .decIXL | .ldIXHN _ | .ldIXLN _ | .ldBIXd _ | .ldCIXd _ | .ldDIXd _ | .ldEIXd _ | .ldHIXd _
  | .ldLIXd _ | .ldAIXd _ | .ldBIXH | .ldBIXL | .ldCIXH | .ldCIXL | .ldDIXH | .ldDIXL | .ldEIXH | .ldEIXL | .ldIXHB | .ldIXHC
  | .ldIXHD | .ldIXHE | .ldIXHIXH | .ldIXHIXL | .ldIXHA | .ldIXLB | .ldIXLC | .ldIXLD | .ldIXLE | .ldIXLIXH | .ldIXLIXL
  | .ldIXLA | .ldAIXH | .ldAIXL | .addAIXH | .addAIXL | .addAIXd _ | .adcAIXH | .adcAIXL | .adcAIXd _ | .subIXH | .subIXL
  | .subIXd _ | .sbcAIXH | .sbcAIXL | .sbcAIXd _ | .andIXH | .andIXL | .andIXd _ | .xorIXH | .xorIXL | .xorIXd _ | .orIXH
  | .orIXL | .orIXd _ | .cpIXH | .cpIXL | .cpIXd _ | .popIX | .jpIX | .ldSPIX | .bitBIXd _ _ _ | .wastedDD | .addIYPp _
  | .ldIYNn _ | .ldIYIndNn _ | .incIY | .decIY | .incIYH | .incIYL | .decIYH | .decIYL | .ldIYHN _ | .ldIYLN _ | .ldBIYd _
  | .ldCIYd _ | .ldDIYd _ | .ldEIYd _ | .ldHIYd _ | .ldLIYd _ | .ldAIYd _ | .ldBIYH | .ldBIYL | .ldCIYH | .ldCIYL | .ldDIYH
  | .ldDIYL | .ldEIYH | .ldEIYL | .ldIYHB | .ldIYHC | .ldIYHD | .ldIYHE | .ldIYHIYH | .ldIYHIYL | .ldIYHA | .ldIYLB | .ldIYLC
  | .ldIYLD | .ldIYLE | .ldIYLIYH | .ldIYLIYL | .ldIYLA | .ldAIYH | .ldAIYL | .addAIYH | .addAIYL | .addAIYd _ | .adcAIYH
  | .adcAIYL | .adcAIYd _ | .subIYH | .subIYL | .subIYd _ | .sbcAIYH | .sbcAIYL | .sbcAIYd _ | .andIYH | .andIYL | .andIYd _
  | .xorIYH | .xorIYL | .xorIYd _ | .orIYH | .orIYL | .orIYd _ | .cpIYH | .cpIYL | .cpIYd _ | .popIY | .jpIY | .ldSPIY
  | .bitBIYd _ _ _ | .wastedFD => []
  | .ldIndBCA => [s.addr .bc]
  | .ldIndDEA | .ldi | .ldd | .ldir | .lddr => [s.addr .de]
  | .ldIndNnHL nn | .ldIndNnRp _ nn | .ldIndNnIX nn | .ldIndNnIY nn => [nn, nn + 1]
  | .ldIndNnA nn => [s.addr (.abs nn)]
  | .incIndHL | .decIndHL | .ldIndHLN _ | .ldIndHLR _ | .rlcIndHL | .rrcIndHL | .rlIndHL | .rrIndHL | .slaIndHL | .sraIndHL
  | .sllIndHL | .srlIndHL | .resBIndHL _ | .setBIndHL _ | .ini | .ind | .inir | .indr | .rrd | .rld => [s.addr .hl]
  | .exIndSPHL | .exIndSPIX | .exIndSPIY => [s.sp, s.sp + 1]
  | .callCcNn cc _ => if condHolds cc s.flags then [s.sp - 1, s.sp - 2] else []
  | .pushQq _ | .callNn _ | .rst _ | .pushIX | .pushIY => [s.sp - 1, s.sp - 2]
  | .incIXd d | .decIXd d | .ldIXdN d _ | .ldIXdB d | .ldIXdC d | .ldIXdD d | .ldIXdE d | .ldIXdH d | .ldIXdL d | .ldIXdA d
  | .rlcIXd d | .rlcIXdR d _ | .rrcIXd d | .rrcIXdR d _ | .rlIXd d | .rlIXdR d _ | .rrIXd d | .rrIXdR d _ | .slaIXd d
  | .slaIXdR d _ | .sraIXd d | .sraIXdR d _ | .sllIXd d | .sllIXdR d _ | .srlIXd d | .srlIXdR d _ | .resBIXd _ d
  | .resBIXdR _ d _ | .setBIXd _ d | .setBIXdR _ d _ => [s.addr (.idx .ix d)]
  | .incIYd d | .decIYd d | .ldIYdN d _ | .ldIYdB d | .ldIYdC d | .ldIYdD d | .ldIYdE d | .ldIYdH d | .ldIYdL d | .ldIYdA d
  | .rlcIYd d | .rlcIYdR d _ | .rrcIYd d | .rrcIYdR d _ | .rlIYd d | .rlIYdR d _ | .rrIYd d | .rrIYdR d _ | .slaIYd d
  | .slaIYdR d _ | .sraIYd d | .sraIYdR d _ | .sllIYd d | .sllIYdR d _ | .srlIYd d | .srlIYdR d _ | .resBIYd _ d
  | .resBIYdR _ d _ | .setBIYd _ d | .setBIYdR _ d _ => [s.addr (.idx .iy d)]

end Sys2Proof.Machine
end

