-- ==== Sys2Proof/Certificates/Slice0/Obligations.lean ====
section
/-! DEFINITION. The statements for the provers, from the numbered rules of spec/. -/

open Sys2Proof Sys2Proof.Machine

/-! ## Encoding -/

/-- R123, R136: the decoder reads an encoded instruction back, with every operand, and leaves the bytes after it. -/
def Obligations.DecodeOfEncode : Prop :=
  ∀ (i : Instr) (rest : List Byte), i.wf = true → followedBy i rest = true → decode (encode i ++ rest) = .ok (i, rest)

/-- R117, R123: what the decoder reads is well formed, and the bytes it takes are the encoding of what it reads; no byte is dropped. -/
def Obligations.EncodeOfDecode : Prop :=
  ∀ (bs : List Byte) (i : Instr) (rest : List Byte), decode bs = .ok (i, rest) →
    i.wf = true ∧ bs = encode i ++ rest ∧ followedBy i rest = true

/-- R118 to R122: one word of each table, written out from its encoding. -/
def Obligations.DecodeManualWords : Prop :=
  decode [0b01111000] = .ok (.ldRR .a .b, []) ∧
  decode [0b00110001, 0xF0, 0xFF] = .ok (.ldRpNn .sp 0xFFF0, []) ∧
  decode [0b11001100, 0x00, 0x40] = .ok (.callCcNn .z 0x4000, []) ∧
  decode [0xCB, 0b01111111] = .ok (.bitBR .o7 .a, []) ∧
  decode [0xED, 0b01111011, 0x00, 0x50] = .ok (.ldRpIndNn .sp 0x5000, []) ∧
  decode [0xED, 0b10110000] = .ok (.ldir, []) ∧
  decode [0xDD, 0b00110110, 0x02, 0x41] = .ok (.ldIXdN 0x02 0x41, []) ∧
  decode [0xFD, 0b01110000, 0x05] = .ok (.ldIYdB 0x05, []) ∧
  decode [0xDD, 0xCB, 0xFE, 0b01000110] = .ok (.bitBIXd .o0 0xFE .o6, []) ∧
  decode [0xFD, 0xCB, 0x00, 0b10000000] = .ok (.resBIYdR .o0 0x00 .b, []) ∧
  decode [0xDD, 0x00] = .ok (.wastedDD, [0x00])

/-- R136, R138, R139: a DD or FD byte is a wasted prefix exactly when the next byte is neither CB nor one of the 85 recognised bytes. -/
def Obligations.WastedPrefixBytes : Prop :=
  (∀ b1 b2 b3 : Byte, decode4 0xDD b1 b2 b3 = .wastedDD ↔ b1 ≠ 0xCB ∧ recognised b1 = false) ∧
  (∀ b1 b2 b3 : Byte, decode4 0xFD b1 b2 b3 = .wastedFD ↔ b1 ≠ 0xCB ∧ recognised b1 = false) ∧
  recognisedBytes.length = 85 ∧ recognisedBytes.Nodup

/-- R134: the byte after ED runs the unsupported-ED hook exactly in the ranges R134 lists, and no other first byte reaches the hook. -/
def Obligations.UnsupportedEdBytes : Prop :=
  ∀ b0 b1 b2 b3 : Byte, form (decode4 b0 b1 b2 b3) = .hook ↔ b0 = 0xED ∧ unsupportedEd b1.toNat = true

/-- R117: the length of an instruction follows from its first two bytes, and four bytes always decode (R124). -/
def Obligations.LengthFromFirstBytes : Prop :=
  (∀ b0 b1 b2 b3 : Byte, (decode4 b0 b1 b2 b3).length = lengthFrom b0 b1) ∧
  (∀ bs : List Byte, 4 ≤ bs.length → ∃ i rest, decode bs = .ok (i, rest))

/-! ## The step -/

/-- R130, R131: when nothing is accepted and the engine is not halted, and the bytes at PC decode to `i`, the step is `i`'s execution in
the state that the host's inputs, the spent inhibit and the fetch leave: PC past the bytes fetched, R counted by the dispatcher.
The form of this is the model's, not the rules': the one read of four bytes (log 8), the cut between the fetch and `exec` (log 9) and the two
bytes fetched for a wasted prefix (log 10) are DEDUCED, and the queue of host inputs that `sample` reads (log 6) is a DESIGN CHOICE. -/
def Obligations.StepRunsTheDecodedInstruction : Prop :=
  ∀ (s u : State) (i : Instr) (rest : List Byte), u = s.sample.clearInhibit → boundary s.sample = .run → s.halted = false →
    decode [u.memRead .fetch0 u.pc, u.memRead .fetch1 (u.pc + 1), u.memRead .fetch2 (u.pc + 2), u.memRead .fetch3 (u.pc + 3)] = .ok (i, rest) →
    step s = exec i { u with pc := u.pc + BitVec.ofNat 16 i.fetchCount, r := refreshAdd u.r i.refreshCount }

/-- R75: the fetch reads what was stored: bytes written at PC and after it are the instruction the next fetch decodes. -/
def Obligations.StoredBytesAreFetched : Prop :=
  ∀ (s : State) (b0 b1 b2 b3 : Byte), s.mem.wf = true →
    s.isRam s.pc = true → s.isRam (s.pc + 1) = true → s.isRam (s.pc + 2) = true → s.isRam (s.pc + 3) = true →
    decodeAt ((((s.memWrite s.pc b0).memWrite (s.pc + 1) b1).memWrite (s.pc + 2) b2).memWrite (s.pc + 3) b3) = decode4 b0 b1 b2 b3

/-! ## Every instruction -/

/-- R144, R146, R400: with the register-copy forms admitted, every instruction completes in every state; it sends exactly one record,
with the bits R144 gives it, and makes at most one port access, after the record. -/
def Obligations.EveryInstructionCompletes : Prop :=
  ∀ (i : Instr) (s : State), s.params.undocXYCB = .admitted →
    ∃ (t : State) (ports : List Event), exec i s = .next t ∧ t.events = ports ++ .notify (recordOf i s) :: s.events ∧
      ports.length ≤ 1 ∧ ∀ e ∈ ports, e.isPort = true

/-- R145, R455: the T-states an instruction adds to the host's counter are its row's, the first count when it branches or repeats. -/
def Obligations.TstatesFollowTheTable : Prop :=
  ∀ (i : Instr) (s t : State), exec i s = .next t →
    t.cycles = s.cycles + (if taken i s then (tstates i).1 else (tstates i).2)

/-- The frame of registers and flags, for every instruction: a register, a flag or a control bit that the instruction's rule does not say
it writes is unchanged. -/
def Obligations.RegisterFrame : Prop :=
  ∀ (i : Instr) (s t : State) (x : Item), exec i s = .next t → x ∉ writes i → x.same s t

/-- The frame of memory, for every instruction: every byte outside the addresses it stores to reads as before. -/
def Obligations.MemoryFrame : Prop :=
  ∀ (i : Instr) (s t : State), exec i s = .next t → bytesKept s t (storeAddrs i s)

/-- R40, R6: no instruction changes what the host presents (the request lines, the bus byte, its waiting inputs), the parameters or the
counter of free values. The queue of inputs (log 6), the parameters held in State (log 4) and the counter of free values (log 3) are fields of the
model's own, each a DESIGN CHOICE that the rules do not name. -/
def Obligations.HostSideKept : Prop :=
  ∀ (i : Instr) (s t : State), exec i s = .next t →
    t.nmiReq = s.nmiReq ∧ t.intReq = s.intReq ∧ t.busByte = s.busByte ∧ t.inputs = s.inputs ∧ t.params = s.params ∧ t.draw = s.draw

/-- R24: no instruction reads or writes a shadow register except EX AF,AF' and EXX. -/
def Obligations.ShadowBankIsolated : Prop :=
  ∀ (i : Instr) (s : State) (k : Bank), i ≠ .exAFAF → i ≠ .exx →
    exec i { s with alt := k } = mapNext (fun t => { t with alt := k }) (exec i s)

/-- R25: only DD-prefixed opcodes read or write IX, and only FD-prefixed opcodes read or write IY. -/
def Obligations.IndexRegistersIsolated : Prop :=
  (∀ (i : Instr) (s : State) (w : Word), firstByte i ≠ 0xDD → exec i { s with ix := w } = mapNext (fun t => { t with ix := w }) (exec i s)) ∧
  (∀ (i : Instr) (s : State) (w : Word), firstByte i ≠ 0xFD → exec i { s with iy := w } = mapNext (fun t => { t with iy := w }) (exec i s))

/-- R31, R35, R36, R37: I is read and written only by LD A,I and LD I,A; no instruction reads IM, IFF1 or the halted latch: the rows that write
one do the same whatever it holds, every other row leaves it as it is and does the same; only the IM rows write IM, only DI, EI, RETI and RETN
write IFF1, and only HALT writes the latch. -/
def Obligations.ControlRegistersIsolated : Prop :=
  (∀ (i : Instr) (s : State) (v : Byte), i ≠ .ldAI → i ≠ .ldIA →
    exec i { s with i := v } = mapNext (fun t => { t with i := v }) (exec i s)) ∧
  (∀ (i : Instr) (s : State) (m : IntMode), Item.im ∉ writes i →
    exec i { s with im := m } = mapNext (fun t => { t with im := m }) (exec i s)) ∧
  (∀ (i : Instr) (s : State) (m : IntMode), Item.im ∈ writes i → exec i { s with im := m } = exec i s) ∧
  (∀ (i : Instr) (s : State) (b : Bool), Item.iff1 ∉ writes i →
    exec i { s with iff1 := b } = mapNext (fun t => { t with iff1 := b }) (exec i s)) ∧
  (∀ (i : Instr) (s : State) (b : Bool), Item.iff1 ∈ writes i → exec i { s with iff1 := b } = exec i s) ∧
  (∀ i : Instr, Item.im ∈ writes i ↔ ∃ y, i = .im0 y ∨ i = .im1 y ∨ i = .im2 y) ∧
  (∀ i : Instr, Item.iff1 ∈ writes i ↔ i = .di ∨ i = .ei ∨ i = .reti ∨ ∃ y, i = .retn y) ∧
  (∀ (i : Instr) (s : State) (b : Bool), i ≠ .halt →
    exec i { s with halted := b } = mapNext (fun t => { t with halted := b }) (exec i s)) ∧
  (∀ (s : State) (b : Bool), exec .halt { s with halted := b } = exec .halt s)

/-- R27, R215, R139: after an instruction that does not branch, PC is the address of the next one; a repeating block instruction that
repeats leaves it at its own first byte. -/
def Obligations.ProgramCounterAdvances : Prop :=
  ∀ (i : Instr) (s t : State), form i ≠ .branch → exec i (fetched i s) = .next t →
    t.pc = if form i = .repeating ∧ taken i (fetched i s) = true then s.pc else s.pc + BitVec.ofNat 16 i.length

/-- R33: IncR adds to the low seven bits of R modulo 128 and keeps bit 7. -/
def Obligations.RefreshAddSevenBits : Prop :=
  ∀ (r : Byte) (k : Nat), (refreshAdd r k).toNat % 128 = (r.toNat + k) % 128 ∧ (refreshAdd r k).getLsbD 7 = r.getLsbD 7

/-- R142: what each execute call, halt cycle and acceptance adds to R; LD A,R reads R after its two increments and LD R,A writes it after
them. -/
def Obligations.RefreshCounts : Prop :=
  (∀ (i : Instr) (s t : State), exec i (fetched i s) = .next t →
    t.r = (match i with
      | .ldRA => s.main.a
      | .wastedDD | .wastedFD =>
        match s.params.fallbackR with
        | .source => refreshAdd s.r 2
        | .silicon => refreshAdd s.r 1
      | _ => refreshAdd s.r (if prefixed i then 2 else 1))) ∧
  (∀ s t : State, exec .ldAR (fetched .ldAR s) = .next t → t.main.a = refreshAdd s.r 2) ∧
  (∀ s t : State, s.halted = true → boundary s.sample = .run → step s = .next t → t.r = refreshAdd s.r 1) ∧
  (∀ s t : State, boundary s.sample ≠ .run → step s = .next t → t.r = refreshAdd s.r 1)

/-! ## Boundaries, interrupts, halt -/

/-- R402, R404: the prefix inhibit first, then the NMI, whatever IFF1 and the EI inhibit say, then the maskable interrupt when it is enabled;
one acceptance is the whole step, and a maskable request still pending after an NMI entry is not taken. -/
def Obligations.BoundaryPriority : Prop :=
  (∀ s : State, s.intInhibit = .afterPrefix → boundary s = .run) ∧
  (∀ s : State, s.intInhibit ≠ .afterPrefix → s.nmiReq = true → boundary s = .nmi) ∧
  (∀ s : State, s.intInhibit ≠ .afterPrefix → s.nmiReq = false →
    (boundary s = .int ↔ s.intReq = true ∧ s.iff1 = true ∧ s.intInhibit = .none)) ∧
  (∀ s : State, boundary s.sample = .nmi → step s = .next (acceptNmi s.sample)) ∧
  (∀ s : State, boundary s.sample = .int → step s = acceptInt s.sample) ∧
  (∀ s t : State, boundary s.sample = .nmi → step s = .next t → boundary t.sample ≠ .int)

/-- R409: NMI entry: the request consumed, IFF1 cleared and IFF2 kept, the halt and the inhibit ended, R counted once, PC pushed, PC at
0x0066, 11 T-states; nothing else changes, the flags among it, and no record is sent. (R413 says otherwise of the IFF2 of a nested NMI: log 21.) -/
def Obligations.NmiEntry : Prop :=
  ∀ s : State, boundary s.sample = .nmi → ∃ t, step s = .next t ∧
    t.nmiReq = false ∧ t.iff1 = false ∧ t.iff2 = s.iff2 ∧ t.halted = false ∧ t.intInhibit = .none ∧ t.r = refreshAdd s.r 1 ∧
    t.pc = 0x0066 ∧ t.cycles = s.cycles + 11 ∧ Pushed s.sample t s.pc ∧
    t = { s.sample with nmiReq := false, iff1 := false, halted := false, intInhibit := .none, r := t.r, sp := t.sp, mem := t.mem, pc := t.pc, cycles := t.cycles }

/-- R405 to R408: maskable entry in the three modes; in mode 0 a bus byte that is no RST opcode has no next state. -/
def Obligations.MaskableEntry : Prop :=
  (∀ s : State, boundary s.sample = .int → s.im = .im0 → s.sample.busByte &&& 0xC7 = 0xC7 →
    ∃ t, step s = .next t ∧ Entered s.sample t ∧ t.pc.toNat = s.sample.busByte.toNat - 0xC7 ∧ t.cycles = s.cycles + 13) ∧
  (∀ s : State, boundary s.sample = .int → s.im = .im0 → s.sample.busByte &&& 0xC7 ≠ 0xC7 → step s = .refused .modeZeroBusByte) ∧
  (∀ s : State, boundary s.sample = .int → s.im = .im1 →
    ∃ t, step s = .next t ∧ Entered s.sample t ∧ t.pc = 0x0038 ∧ t.cycles = s.cycles + 13) ∧
  (∀ s : State, boundary s.sample = .int → s.im = .im2 →
    ∃ t, step s = .next t ∧ Entered s.sample t ∧ t.cycles = s.cycles + 19 ∧
      t.pc = word (t.memRead .data1 (word s.i s.sample.busByte + 1)) (t.memRead .data0 (word s.i s.sample.busByte)))

/-- R267, R403, R452: EI sets both flip-flops, and no maskable interrupt is accepted at the next boundary; after the step that follows the
inhibit is gone, unless that step ran EI again or a wasted prefix. -/
def Obligations.EiDelaysMaskable : Prop :=
  ∀ s : State, ∃ t, exec .ei s = .next t ∧
    t = { s with iff1 := true, iff2 := true, intInhibit := .afterEi }.done ⟨false, false, false, true⟩ 4 ∧
    (t.sample.nmiReq = false → boundary t.sample = .run) ∧
    (∀ u, t.sample.nmiReq = false → step t = .next u →
      decodeAt t.sample.clearInhibit ≠ .ei → decodeAt t.sample.clearInhibit ≠ .wastedDD → decodeAt t.sample.clearInhibit ≠ .wastedFD →
      u.intInhibit = .none)

/-- R412: after an acceptance on a stack in plain RAM, the return restores the interrupted PC and SP; after an NMI, RETN restores IFF1 (IFF2
held it before), and after a maskable interrupt IFF1 stays clear. -/
def Obligations.ReturnAfterAcceptance : Prop :=
  (∀ (s : State) (y : Oct), s.mem.wf = true → s.isRam (s.sp - 1) = true → s.isRam (s.sp - 2) = true → s.iff2 = s.iff1 →
    ∃ t, exec (.retn y) (acceptNmi s) = .next t ∧ t.pc = s.pc ∧ t.sp = s.sp ∧ t.iff1 = s.iff1) ∧
  (∀ s t : State, s.mem.wf = true → s.isRam (s.sp - 1) = true → s.isRam (s.sp - 2) = true → acceptInt s = .next t →
    ∃ u, exec .reti t = .next u ∧ u.pc = s.pc ∧ u.sp = s.sp ∧ u.iff1 = false)

/-- R265, R130, R420: HALT sets the latch and sends its record; while it is set and nothing is accepted, a step only counts R by one and adds
4 T-states. -/
def Obligations.HaltCycles : Prop :=
  (∀ s : State, exec .halt s = .next ({ s with halted := true }.done ⟨false, true, false, false⟩ 4)) ∧
  (∀ s : State, s.halted = true → boundary s.sample = .run →
    step s = .next { s.sample with intInhibit := .none, r := refreshAdd s.r 1, cycles := s.cycles + 4 })

/-- R265, R420, D26, R8: halted with IFF1 = 0 and no NMI to come, the core stays halted for ever: every step is a halt cycle, and every register but
R and all memory survive, and nothing is sent. And for every end-of-run predicate STOP, a run is a number of steps that ends at the first step
boundary where STOP holds, or after the number of steps it is given. -/
def Obligations.HaltedForever : Prop :=
  (∀ (n : Nat) (s : State), s.stopped = true → s.nmiReq = false → quietInputs s.inputs →
    ∃ t : State, Host.Core.run Sys2Proof.core n s = .next t ∧ t.stopped = true ∧ t.pc = s.pc ∧ t.sp = s.sp ∧ t.main = s.main ∧
      t.alt = s.alt ∧ t.ix = s.ix ∧ t.iy = s.iy ∧ t.i = s.i ∧ t.iff2 = s.iff2 ∧ t.im = s.im ∧ t.mem = s.mem ∧ t.events = s.events ∧
      t.r = refreshAdd s.r n ∧ t.cycles = s.cycles + 4 * n) ∧
  (∀ (stop : State → Bool) (n : Nat) (s t : State), runUntil stop n s = .next t →
    ∃ k, k ≤ n ∧ Host.Core.run Sys2Proof.core k s = .next t ∧ (k < n → stop t = true) ∧
      ∀ (j : Nat) (u : State), j < k → Host.Core.run Sys2Proof.core j s = .next u → stop u = false)

/-- R36, R130: every step keeps the invariant: IFF1 is set only when IFF2 is, a halted engine has no inhibit left, and memory is in its
canonical form. The canonical form (addresses strictly rising, no entry equal to 0x00) is the model's DESIGN CHOICE, log 2, and no rule's. -/
def Obligations.InvariantKept : Prop :=
  ∀ s t : State, s.Inv → step s = .next t → t.Inv

/-- R440: the state after reset meets the invariant and holds the values R440 states; memory lists nothing (the host's image is loaded from
outside, log 17) and the parameters are at the spec's defaults. -/
def Obligations.ResetState : Prop :=
  State.reset.Inv ∧ State.reset.pc = 0x0000 ∧ State.reset.i = 0x00 ∧ State.reset.r = 0x00 ∧ State.reset.iff1 = false ∧
    State.reset.iff2 = false ∧ State.reset.im = .im0 ∧ State.reset.halted = false ∧ State.reset.intInhibit = .none ∧
    State.reset.nmiReq = false ∧ State.reset.mem = [] ∧
    State.reset.params = { fallbackR := .source, undocXYCB := .admitted, nonRam := [] }

/-! ## Operands and loads -/

/-- R22, R23, R25, R28, R116: a write of an operand is what the next read of it gives, a pair is its two halves, a half of an index register
is written without the other, and F holds S, Z, F5, H, F3, P/V, N and C in its bits 7 down to 0. -/
def Obligations.OperandsReadBack : Prop :=
  (∀ (s : State) (l : Loc8) (v : Byte), s.mem.wf = true → (∀ p, l = .mem p → s.isRam (s.addr p) = true) → (s.set8 l v).get8 l = v) ∧
  (∀ (s : State) (q : Reg16) (w : Word), (s.set16 q w).get16 q = w) ∧
  (∀ (s : State) (w : Word),
    (s.set16 .bc w).reg .b = hiByte w ∧ (s.set16 .bc w).reg .c = loByte w ∧ (s.set16 .de w).reg .d = hiByte w ∧
    (s.set16 .de w).reg .e = loByte w ∧ (s.set16 .hl w).reg .h = hiByte w ∧ (s.set16 .hl w).reg .l = loByte w ∧
    (s.set16 .af w).reg .a = hiByte w ∧ (s.set16 .af w).flags = Flags.ofByte (loByte w)) ∧
  (∀ (s : State) (v : Byte),
    (s.setReg .b v).get16 .bc = word v s.main.c ∧ (s.setReg .c v).get16 .bc = word s.main.b v ∧
    (s.setReg .d v).get16 .de = word v s.main.e ∧ (s.setReg .e v).get16 .de = word s.main.d v ∧
    (s.setReg .h v).get16 .hl = word v s.main.l ∧ (s.setReg .l v).get16 .hl = word s.main.h v) ∧
  (∀ (s : State) (x : Idx) (v : Byte),
    hiByte ((s.set8 (.half x .high) v).idx x) = v ∧ loByte ((s.set8 (.half x .high) v).idx x) = loByte (s.idx x) ∧
    loByte ((s.set8 (.half x .low) v).idx x) = v ∧ hiByte ((s.set8 (.half x .low) v).idx x) = hiByte (s.idx x)) ∧
  (∀ v : Byte,
    (Flags.ofByte v).s = v.getLsbD 7 ∧ (Flags.ofByte v).z = v.getLsbD 6 ∧ (Flags.ofByte v).f5 = v.getLsbD 5 ∧
    (Flags.ofByte v).h = v.getLsbD 4 ∧ (Flags.ofByte v).f3 = v.getLsbD 3 ∧ (Flags.ofByte v).pv = v.getLsbD 2 ∧
    (Flags.ofByte v).n = v.getLsbD 1 ∧ (Flags.ofByte v).c = v.getLsbD 0 ∧ (Flags.ofByte v).toByte = v) ∧
  (∀ (s : State) (fl : Flags),
    (s.setFlags fl).flags = fl ∧
    (s.setFlags fl).main.f.getLsbD 7 = fl.s ∧ (s.setFlags fl).main.f.getLsbD 6 = fl.z ∧ (s.setFlags fl).main.f.getLsbD 5 = fl.f5 ∧
    (s.setFlags fl).main.f.getLsbD 4 = fl.h ∧ (s.setFlags fl).main.f.getLsbD 3 = fl.f3 ∧ (s.setFlags fl).main.f.getLsbD 2 = fl.pv ∧
    (s.setFlags fl).main.f.getLsbD 1 = fl.n ∧ (s.setFlags fl).main.f.getLsbD 0 = fl.c)

/-- R11, R113, R114: a displacement is sign-extended and added modulo 0x10000. -/
def Obligations.DisplacementsAreSigned : Prop :=
  (∀ (w : Word) (d : Byte), (((w + sext8 d).toNat : Nat) : Int) = ((w.toNat : Int) + sextInt d) % 0x10000) ∧
  (∀ (s : State) (x : Idx) (d : Byte), (((s.addr (.idx x d)).toNat : Nat) : Int) = (((s.idx x).toNat : Int) + sextInt d) % 0x10000)

/-- R160 to R173, R178 to R180: an 8-bit load copies the source byte to the destination and changes nothing else. -/
def Obligations.Load8Copies : Prop :=
  ∀ (i : Instr) (s : State) (dst : Loc8) (src : Src8), form i = .load8 dst src →
    exec i s = .next ((s.set8 dst (s.src8 src)).done plainRecord (tstates i).1)

/-- R174 to R177: the loads of I and R, with the flags of LD A,I and LD A,R; LD A,R reads R as its own fetch has counted it, and LD R,A is the
only instruction that changes bit 7 of R. -/
def Obligations.ControlRegisterLoads : Prop :=
  decode [0xED, 0x57] = .ok (.ldAI, []) ∧ decode [0xED, 0x5F] = .ok (.ldAR, []) ∧
  decode [0xED, 0x47] = .ok (.ldIA, []) ∧ decode [0xED, 0x4F] = .ok (.ldRA, []) ∧
  (∀ s : State, exec .ldAI s = .next ({ s with main := { s.main with
      a := s.i
      f := Flags.toByte { s := s.i.getLsbD 7, z := s.i == 0, f5 := s.i.getLsbD 5, h := false, f3 := s.i.getLsbD 3, pv := s.iff2,
                          n := false, c := s.flags.c } } }.done plainRecord 9)) ∧
  (∀ s : State, (fetched .ldAR s).r = refreshAdd s.r 2) ∧
  (∀ s : State, exec .ldAR s = .next ({ s with main := { s.main with
      a := s.r
      f := Flags.toByte { s := s.r.getLsbD 7, z := s.r == 0, f5 := s.r.getLsbD 5, h := false, f3 := s.r.getLsbD 3, pv := s.iff2,
                          n := false, c := s.flags.c } } }.done plainRecord 9)) ∧
  (∀ s : State, exec .ldIA s = .next ({ s with i := s.main.a }.done plainRecord 9)) ∧
  (∀ s : State, exec .ldRA s = .next ({ s with r := s.main.a }.done plainRecord 9)) ∧
  (∀ (i : Instr) (s t : State), i ≠ .ldRA → exec i (fetched i s) = .next t → t.r.getLsbD 7 = s.r.getLsbD 7)

/-- R190 to R194, R202, R203: the 16-bit loads of a register: an immediate, the little-endian word at nn, or SP from HL or an index register;
the record says whether SP is loaded. -/
def Obligations.Load16Registers : Prop :=
  (∀ (s : State) (rp : RegPair) (nn : Word),
    exec (.ldRpNn rp nn) s = .next ((s.set16 (pairReg rp) nn).done ⟨false, false, rp == .sp, false⟩ 10)) ∧
  (∀ (s : State) (nn : Word), exec (.ldIXNn nn) s = .next ({ s with ix := nn }.done plainRecord 14)) ∧
  (∀ (s : State) (nn : Word), exec (.ldIYNn nn) s = .next ({ s with iy := nn }.done plainRecord 14)) ∧
  (∀ (s : State) (nn v : Word), v = word (s.memRead .data1 (nn + 1)) (s.memRead .data0 nn) →
    exec (.ldHLIndNn nn) s = .next ((s.set16 .hl v).done plainRecord 16) ∧
    (∀ rp, exec (.ldRpIndNn rp nn) s = .next ((s.set16 (pairReg rp) v).done ⟨false, false, rp == .sp, false⟩ 20)) ∧
    exec (.ldIXIndNn nn) s = .next ({ s with ix := v }.done plainRecord 20) ∧
    exec (.ldIYIndNn nn) s = .next ({ s with iy := v }.done plainRecord 20)) ∧
  (∀ s : State, exec .ldSPHL s = .next ({ s with sp := s.main.hl }.done ⟨false, false, true, false⟩ 6)) ∧
  (∀ s : State, exec .ldSPIX s = .next ({ s with sp := s.ix }.done ⟨false, false, true, false⟩ 10)) ∧
  (∀ s : State, exec .ldSPIY s = .next ({ s with sp := s.iy }.done ⟨false, false, true, false⟩ 10))

/-- R195 to R197, R64: the 16-bit stores: the low byte at nn, the high byte at nn + 1, modulo 0x10000, every other byte as before. -/
def Obligations.Store16LittleEndian : Prop :=
  ∀ (i : Instr) (s : State) (nn v : Word),
    ((i = .ldIndNnHL nn ∧ v = s.main.hl) ∨ (∃ rp, i = .ldIndNnRp rp nn ∧ v = s.get16 (pairReg rp)) ∨
      (i = .ldIndNnIX nn ∧ v = s.ix) ∨ (i = .ldIndNnIY nn ∧ v = s.iy)) →
    ∃ t, exec i s = .next t ∧ t = { s with mem := t.mem }.done plainRecord (tstates i).1 ∧ bytesKept s t [nn, nn + 1] ∧
      (s.mem.wf = true → s.isRam nn = true → s.isRam (nn + 1) = true →
        ∀ acc, t.memRead acc nn = loByte v ∧ t.memRead acc (nn + 1) = hiByte v)

/-- R198 to R201: PUSH pushes its register and POP loads its register from the stack; POP AF loads all of F. -/
def Obligations.PushAndPop : Prop :=
  (∀ (i : Instr) (s : State) (q : Reg16),
    ((∃ qq, i = .pushQq qq ∧ q = stackReg qq) ∨ (i = .pushIX ∧ q = .ix) ∨ (i = .pushIY ∧ q = .iy)) →
    ∃ t, exec i s = .next t ∧ t = { s with mem := t.mem, sp := t.sp }.done plainRecord (tstates i).1 ∧ Pushed s t (s.get16 q)) ∧
  (∀ (i : Instr) (s : State) (q : Reg16),
    ((∃ qq, i = .popQq qq ∧ q = stackReg qq) ∨ (i = .popIX ∧ q = .ix) ∨ (i = .popIY ∧ q = .iy)) →
    exec i s = .next (({ s with sp := s.sp + 2 }.set16 q (word (s.memRead .data1 (s.sp + 1)) (s.memRead .data0 s.sp))).done
      plainRecord (tstates i).1))

/-- R199, R337, R339: on a stack in plain RAM, for every SP, the wrap included: PUSH followed by POP of the same register restores the register and
SP, and CALL followed by RET comes back to the address after the CALL with SP as before; no other register moves, and only memory, the records
and the T-states differ. -/
def Obligations.StackRoundTrips : Prop :=
  (∀ (s : State) (i j : Instr), s.mem.wf = true → s.isRam (s.sp - 1) = true → s.isRam (s.sp - 2) = true →
    ((∃ qq, i = .pushQq qq ∧ j = .popQq qq) ∨ (i = .pushIX ∧ j = .popIX) ∨ (i = .pushIY ∧ j = .popIY)) →
    ∃ t u, exec i s = .next t ∧ exec j t = .next u ∧ u = { s with mem := u.mem, events := u.events, cycles := u.cycles }) ∧
  (∀ (s : State) (nn : Word), s.mem.wf = true → s.isRam (s.sp - 1) = true → s.isRam (s.sp - 2) = true →
    ∃ t u, exec (.callNn nn) s = .next t ∧ t.pc = nn ∧ exec .ret t = .next u ∧
      u = { s with mem := u.mem, events := u.events, cycles := u.cycles })

/-! ## Exchanges and block instructions -/

/-- R210, R211, R212: the register exchanges. -/
def Obligations.ExchangesSwap : Prop :=
  decode [0xEB] = .ok (.exDEHL, []) ∧ decode [0x08] = .ok (.exAFAF, []) ∧ decode [0xD9] = .ok (.exx, []) ∧
  decode [0xDD, 0xEB] = .ok (.wastedDD, [0xEB]) ∧ decode [0xFD, 0xEB] = .ok (.wastedFD, [0xEB]) ∧
  (∀ s : State, exec .exDEHL s = .next ({ s with main := { s.main with d := s.main.h, e := s.main.l, h := s.main.d, l := s.main.e } }.done
    plainRecord 4)) ∧
  (∀ s : State, exec .exAFAF s = .next ({ s with
      main := { s.main with a := s.alt.a, f := s.alt.f }
      alt := { s.alt with a := s.main.a, f := s.main.f } }.done plainRecord 4)) ∧
  (∀ s t u : State, exec .exAFAF s = .next t → exec .exAFAF t = .next u → u.main = s.main ∧ u.alt = s.alt) ∧
  (∀ s : State, exec .exx s = .next ({ s with
      main := { a := s.main.a, f := s.main.f, b := s.alt.b, c := s.alt.c, d := s.alt.d, e := s.alt.e, h := s.alt.h, l := s.alt.l }
      alt := { a := s.alt.a, f := s.alt.f, b := s.main.b, c := s.main.c, d := s.main.d, e := s.main.e, h := s.main.h, l := s.main.l } }.done
    plainRecord 4))

/-- R213, R214: EX (SP),rr exchanges the register with the word at SP, and SP does not move. -/
def Obligations.ExchangeWithStack : Prop :=
  ∀ (s : State) (x : Instr × Reg16), x ∈ [(Instr.exIndSPHL, Reg16.hl), (.exIndSPIX, .ix), (.exIndSPIY, .iy)] →
    ∃ t, exec x.1 s = .next t ∧
      t = ({ s with mem := t.mem }.set16 x.2 (word (s.memRead .data1 (s.sp + 1)) (s.memRead .data0 s.sp))).done plainRecord (tstates x.1).1 ∧
      bytesKept s t [s.sp, s.sp + 1] ∧
      (s.mem.wf = true → s.isRam s.sp = true → s.isRam (s.sp + 1) = true →
        ∀ acc, t.memRead acc s.sp = loByte (s.get16 x.2) ∧ t.memRead acc (s.sp + 1) = hiByte (s.get16 x.2))

/-- R215 to R219: one iteration of a block transfer: the byte at HL goes to DE, the pointers and BC step, the flags follow the byte plus A, and a
repeating form steps PC back by 2 while BC is not 0. -/
def Obligations.BlockTransfer : Prop :=
  ∀ (s : State) (x : Instr × Dir × Bool), x ∈ [(Instr.ldi, Dir.inc, false), (.ldd, .dec, false), (.ldir, .inc, true), (.lddr, .dec, true)] →
    ∃ t, exec x.1 s = .next t ∧
      t.main.hl = x.2.1.step s.main.hl ∧ t.main.de = x.2.1.step s.main.de ∧ t.main.bc = s.main.bc - 1 ∧ t.main.a = s.main.a ∧
      t.flags = { s.flags with
        h := false
        n := false
        pv := decide (s.main.bc ≠ 1)
        f3 := (s.memRead .data0 s.main.hl + s.main.a).getLsbD 3
        f5 := (s.memRead .data0 s.main.hl + s.main.a).getLsbD 1 } ∧
      bytesKept s t [s.main.de] ∧
      (s.mem.wf = true → s.isRam s.main.de = true → ∀ acc, t.memRead acc s.main.de = s.memRead .data0 s.main.hl) ∧
      t = { s with
        main := t.main
        mem := t.mem
        pc := if x.2.2 && s.main.bc != 1 then s.pc - 2 else s.pc }.done plainRecord (if x.2.2 && s.main.bc != 1 then 21 else 16)

/-- R215, R220 to R223: one iteration of a block search: A is compared with the byte at HL, HL and BC step, C and A are unchanged, and a
repeating form steps PC back by 2 while BC is not 0 and the byte was not found. -/
def Obligations.BlockSearch : Prop :=
  ∀ (s : State) (x : Instr × Dir × Bool), x ∈ [(Instr.cpi, Dir.inc, false), (.cpd, .dec, false), (.cpir, .inc, true), (.cpdr, .dec, true)] →
    ∀ (v r : Byte) (h again : Bool), v = s.memRead .data0 s.main.hl → r = s.main.a - v →
      h = decide (s.main.a.toNat % 16 < v.toNat % 16) → again = (x.2.2 && s.main.bc != 1 && s.main.a != v) →
    ∃ t, exec x.1 s = .next t ∧
      t.main.hl = x.2.1.step s.main.hl ∧ t.main.bc = s.main.bc - 1 ∧ t.main.de = s.main.de ∧ t.main.a = s.main.a ∧
      t.flags = {
        s := r.getLsbD 7
        z := decide (s.main.a = v)
        f5 := (r - (if h then 1 else 0)).getLsbD 1
        h := h
        f3 := (r - (if h then 1 else 0)).getLsbD 3
        pv := decide (s.main.bc ≠ 1)
        n := true
        c := s.flags.c } ∧
      t = { s with main := t.main, pc := if again then s.pc - 2 else s.pc }.done plainRecord (if again then 21 else 16)

/-- R215, R366 to R370: one iteration of a block input: some byte read from port C is stored at HL, HL and B step, S, Z, F5 and F3 follow the
decremented B and N is set; H, P/V and C may be anything. -/
def Obligations.BlockInput : Prop :=
  ∀ (s : State) (x : Instr × Dir × Bool), x ∈ [(Instr.ini, Dir.inc, false), (.ind, .dec, false), (.inir, .inc, true), (.indr, .dec, true)] →
    ∀ b : Byte, b = s.main.b - 1 →
    ∃ (t : State) (v : Byte) (h pv c : Bool), exec x.1 s = .next t ∧
      t.main.hl = x.2.1.step s.main.hl ∧ t.main.b = b ∧ t.main.c = s.main.c ∧ t.main.de = s.main.de ∧ t.main.a = s.main.a ∧
      t.flags = { s := b.getLsbD 7, z := decide (b = 0), f5 := b.getLsbD 5, h := h, f3 := b.getLsbD 3, pv := pv, n := true, c := c } ∧
      bytesKept s t [s.main.hl] ∧
      (s.mem.wf = true → s.isRam s.main.hl = true → ∀ acc, t.memRead acc s.main.hl = v) ∧
      t = { s with
        main := t.main
        mem := t.mem
        pc := if x.2.2 && b != 0 then s.pc - 2 else s.pc
        events := .portRead s.main.c v :: .notify plainRecord :: s.events
        cycles := s.cycles + (if x.2.2 && b != 0 then 21 else 16) }

/-- R215, R366, R371 to R374: one iteration of a block output: the byte at HL is written to port C, HL and B step, and the flags are those of
block input; no memory is written. -/
def Obligations.BlockOutput : Prop :=
  ∀ (s : State) (x : Instr × Dir × Bool), x ∈ [(Instr.outi, Dir.inc, false), (.outd, .dec, false), (.otir, .inc, true), (.otdr, .dec, true)] →
    ∀ b : Byte, b = s.main.b - 1 →
    ∃ (t : State) (h pv c : Bool), exec x.1 s = .next t ∧
      t.main.hl = x.2.1.step s.main.hl ∧ t.main.b = b ∧ t.main.c = s.main.c ∧ t.main.de = s.main.de ∧ t.main.a = s.main.a ∧
      t.flags = { s := b.getLsbD 7, z := decide (b = 0), f5 := b.getLsbD 5, h := h, f3 := b.getLsbD 3, pv := pv, n := true, c := c } ∧
      t = { s with
        main := t.main
        pc := if x.2.2 && b != 0 then s.pc - 2 else s.pc
        events := .portWrite s.main.c (s.memRead .data0 s.main.hl) :: .notify plainRecord :: s.events
        cycles := s.cycles + (if x.2.2 && b != 0 then 21 else 16) }

/-- R215 (a), (e): LDIR and LDDR run BC iterations (65,536 when BC is 0 on entry) and the block input and output repeats run B (256 when B is
0): PC stays at the instruction through all but the last, R counts two for each, and the T-states are 21 for each but the last, which has 16.
`repeated` runs the instruction again and again as if its own bytes stay as they are and no interrupt is accepted between. CPIR and CPDR, which also
end on a match (R222, R223), are not in it: BlockSearch states their iteration. -/
def Obligations.RepeatCount : Prop :=
  ∀ (i : Instr) (s : State) (n k : Nat),
    ((i = .ldir ∨ i = .lddr) ∧ n = (if s.main.bc = 0 then 65536 else s.main.bc.toNat) ∨
      (i = .inir ∨ i = .indr ∨ i = .otir ∨ i = .otdr) ∧ n = (if s.main.b = 0 then 256 else s.main.b.toNat)) →
    k ≤ n → ∃ t, repeated i k s = .next t ∧
      t.pc = (if k = n then s.pc + 2 else s.pc) ∧ t.r = refreshAdd s.r (2 * k) ∧
      t.cycles = s.cycles + (if k = n then 21 * (k - 1) + 16 else 21 * k)

/-! ## 8-bit arithmetic and logic -/

/-- R230, R234, R237 to R244: the two-operand ALU instructions, for every operand form: A and F from the operation on A, the operand and the
flags, and nothing else; AND sets H, XOR and OR clear it, and all three clear N and C and give the parity of the result; CP writes the flags only,
with F5 and F3 from its operand. -/
def Obligations.AluForms : Prop :=
  ∀ (i : Instr) (s : State) (op : AluOp) (src : Src8) (v : Byte) (cin : Bool), form i = .alu op src → v = s.src8 src → cin = s.flags.c →
    ∃ r : Byte × Flags, exec i s = .next ({ s with main := { s.main with a := r.1, f := r.2.toByte } }.done plainRecord (tstates i).1) ∧
      r = (match op with
        | .add => add8 s.main.a v false
        | .adc => add8 s.main.a v cin
        | .sub => sub8 s.main.a v false
        | .sbc => sub8 s.main.a v cin
        | .and => (s.main.a &&& v, Flags.ofResult (s.main.a &&& v) {
            s := false, z := false, f5 := false, f3 := false
            h := true
            pv := parity (s.main.a &&& v)
            n := false
            c := false })
        | .xor => (s.main.a ^^^ v, Flags.ofResult (s.main.a ^^^ v) {
            s := false, z := false, f5 := false, f3 := false
            h := false
            pv := parity (s.main.a ^^^ v)
            n := false
            c := false })
        | .or => (s.main.a ||| v, Flags.ofResult (s.main.a ||| v) {
            s := false, z := false, f5 := false, f3 := false
            h := false
            pv := parity (s.main.a ||| v)
            n := false
            c := false })
        | .cp => (s.main.a, { (sub8 s.main.a v false).2 with f5 := v.getLsbD 5, f3 := v.getLsbD 3 }))

/-- R29, R232, R233: the sum and the difference are exact modulo 256; C is the carry or borrow out of bit 7, H the one out of bit 3, P/V the
signed overflow, S and Z the sign and the zero of the result. -/
def Obligations.AddAndSubAreExact : Prop :=
  ∀ (a b : Byte) (cin : Bool),
    ((add8 a b cin).1.toNat = (a.toNat + b.toNat + cin.toNat) % 256 ∧
      (add8 a b cin).2 = Flags.ofResult (add8 a b cin).1 {
        s := false, z := false, f5 := false, f3 := false
        h := decide (a.toNat % 16 + b.toNat % 16 + cin.toNat ≥ 16)
        pv := decide (a.toInt + b.toInt + cin.toNat < -128 ∨ a.toInt + b.toInt + cin.toNat > 127)
        n := false
        c := decide (a.toNat + b.toNat + cin.toNat ≥ 256) }) ∧
    (((sub8 a b cin).1.toNat : Int) = ((a.toNat : Int) - b.toNat - cin.toNat) % 256 ∧
      (sub8 a b cin).2 = Flags.ofResult (sub8 a b cin).1 {
        s := false, z := false, f5 := false, f3 := false
        h := decide (a.toNat % 16 < b.toNat % 16 + cin.toNat)
        pv := decide (a.toInt - b.toInt - cin.toNat < -128 ∨ a.toInt - b.toInt - cin.toNat > 127)
        n := true
        c := decide (a.toNat < b.toNat + cin.toNat) })

/-- R231: parity is 1 when the byte has an even number of 1 bits, else 0; and R231's examples. -/
def Obligations.ParityCountsOnes : Prop :=
  (∀ v : Byte, parity v = decide (onesIn v % 2 = 0)) ∧
    parity 0x00 = true ∧ parity 0x01 = false ∧ parity 0x03 = true ∧ parity 0xFF = true

/-- R235, R236, R245 to R250: INC and DEC of every operand form: the operand stepped by 1 and written back, and the flags of adding or
subtracting 1 but for C, which is unchanged. -/
def Obligations.IncDecForms : Prop :=
  ∀ (i : Instr) (s : State) (d : Dir) (l : Loc8) (v : Byte), form i = .incDec d l → v = s.get8 l →
    exec i s = .next (((s.set8 l (match d with | .inc => v + 1 | .dec => v - 1)).setFlags
      { (match d with | .inc => (add8 v 1 false).2 | .dec => (sub8 v 1 false).2) with c := s.flags.c }).done plainRecord (tstates i).1)

/-! ## General-purpose and control -/

/-- R260 to R264: DAA, CPL, NEG and its mirrors, CCF and SCF. -/
def Obligations.AccumulatorOperations : Prop :=
  decode [0x27] = .ok (.daa, []) ∧ decode [0x2F] = .ok (.cpl, []) ∧ decode [0x3F] = .ok (.ccf, []) ∧ decode [0x37] = .ok (.scf, []) ∧
  (∀ b ∈ ([0x44, 0x4C, 0x54, 0x5C, 0x64, 0x6C, 0x74, 0x7C] : List Byte), ∃ y, decode [0xED, b] = .ok (.neg y, [])) ∧
  (∀ (s : State) (corr r : Byte),
    corr = (if s.flags.h || decide (s.main.a.toNat % 16 > 9) then 0x06 else 0x00) ||| (if s.flags.c || decide (s.main.a.toNat > 0x99) then 0x60 else 0x00) →
    r = (if s.flags.n then s.main.a - corr else s.main.a + corr) →
    exec .daa s = .next ({ s with main := { s.main with
      a := r
      f := Flags.toByte { s := r.getLsbD 7, z := r == 0, f5 := r.getLsbD 5, h := (s.main.a ^^^ r).getLsbD 4, f3 := r.getLsbD 3,
                          pv := parity r, n := s.flags.n, c := s.flags.c || decide (s.main.a.toNat > 0x99) } } }.done plainRecord 4)) ∧
  (∀ (s : State) (r : Byte), r = s.main.a ^^^ 0xFF →
    exec .cpl s = .next ({ s with main := { s.main with
      a := r
      f := Flags.toByte { s.flags with h := true, n := true, f5 := r.getLsbD 5, f3 := r.getLsbD 3 } } }.done plainRecord 4)) ∧
  (∀ (s : State) (y : Oct), exec (.neg y) s = .next ({ s with main := { s.main with
      a := (sub8 0 s.main.a false).1
      f := (sub8 0 s.main.a false).2.toByte } }.done plainRecord 8)) ∧
  (∀ s : State, (sub8 0 s.main.a false).2.c = decide (s.main.a ≠ 0) ∧ (sub8 0 s.main.a false).2.pv = decide (s.main.a = 0x80)) ∧
  (∀ s : State, exec .ccf s = .next ({ s with main := { s.main with
      f := Flags.toByte { s.flags with h := s.flags.c, c := !s.flags.c, n := false, f5 := s.main.a.getLsbD 5, f3 := s.main.a.getLsbD 3 } } }.done
    plainRecord 4)) ∧
  (∀ s : State, exec .scf s = .next ({ s with main := { s.main with
      f := Flags.toByte { s.flags with c := true, h := false, n := false, f5 := s.main.a.getLsbD 5, f3 := s.main.a.getLsbD 3 } } }.done
    plainRecord 4))

/-- R260, R237 to R240: DAA after ADD or ADC of two packed BCD bytes gives the decimal sum and carry, and after SUB or SBC the decimal
difference and borrow. -/
def Obligations.DaaIsDecimal : Prop :=
  ∀ (m n : Nat) (cin : Bool), m < 100 → n < 100 →
    (∀ r : Byte × Flags, r = add8 (bcd m) (bcd n) cin →
      (Machine.daa r.1 r.2).1 = bcd ((m + n + cin.toNat) % 100) ∧ (Machine.daa r.1 r.2).2.c = decide (m + n + cin.toNat ≥ 100)) ∧
    (∀ r : Byte × Flags, r = sub8 (bcd m) (bcd n) cin →
      (Machine.daa r.1 r.2).1 = bcd ((m + 100 - n - cin.toNat) % 100) ∧ (Machine.daa r.1 r.2).2.c = decide (m < n + cin.toNat))

/-- R266, R268 to R272: DI, IM 0, IM 1, IM 2, NOP and the ED no-operations, with their encodings. -/
def Obligations.ControlInstructions : Prop :=
  decode [0xF3] = .ok (.di, []) ∧ decode [0x00] = .ok (.nop, []) ∧
  (∀ b ∈ ([0x46, 0x4E, 0x66, 0x6E] : List Byte), ∃ y, decode [0xED, b] = .ok (.im0 y, [])) ∧
  (∀ b ∈ ([0x56, 0x76] : List Byte), ∃ y, decode [0xED, b] = .ok (.im1 y, [])) ∧
  (∀ b ∈ ([0x5E, 0x7E] : List Byte), ∃ y, decode [0xED, b] = .ok (.im2 y, [])) ∧
  (∀ b ∈ ([0x77, 0x7F] : List Byte), ∃ y, decode [0xED, b] = .ok (.edNop y, [])) ∧
  (∀ s : State, exec .di s = .next ({ s with iff1 := false, iff2 := false }.done ⟨false, false, false, true⟩ 4)) ∧
  (∀ (s : State) (y : Oct), exec (.im0 y) s = .next ({ s with im := .im0 }.done plainRecord 8)) ∧
  (∀ (s : State) (y : Oct), exec (.im1 y) s = .next ({ s with im := .im1 }.done plainRecord 8)) ∧
  (∀ (s : State) (y : Oct), exec (.im2 y) s = .next ({ s with im := .im2 }.done plainRecord 8)) ∧
  (∀ s : State, exec .nop (fetched .nop s) = .next ({ s with pc := s.pc + 1, r := refreshAdd s.r 1 }.done plainRecord 4)) ∧
  (∀ s : State, exec .nop s = .next (s.done plainRecord 4)) ∧
  (∀ (s : State) (y : Oct), exec (.edNop y) (fetched (.edNop y) s) =
    .next ({ s with pc := s.pc + 2, r := refreshAdd s.r 2 }.done plainRecord 8)) ∧
  (∀ (s : State) (y : Oct), exec (.edNop y) s = .next (s.done plainRecord 8))

/-- R135, R139, R404: the fallbacks. The unsupported-ED hook at its default is an 8-cycle no-operation with one plain record. A wasted DD or FD prefix
runs as a 4-cycle NOP: PC stands at the byte after the prefix, R has counted two (one under `silicon`), the inhibit is set, and whatever the host
requests, the next step accepts nothing. -/
def Obligations.FallbackForms : Prop :=
  (∀ (i : Instr) (s : State), form i = .hook →
      exec i (fetched i s) = .next ({ s with pc := s.pc + 2, r := refreshAdd s.r 2 }.done plainRecord 8) ∧
      exec i s = .next (s.done plainRecord 8)) ∧
  (∀ (i : Instr) (s : State), i = .wastedDD ∨ i = .wastedFD → ∃ t, exec i (fetched i s) = .next t ∧
      t = { s with pc := s.pc + 1, r := t.r, intInhibit := .afterPrefix }.done plainRecord 4 ∧
      (s.params.fallbackR = .source → t.r = refreshAdd s.r 2) ∧ (s.params.fallbackR = .silicon → t.r = refreshAdd s.r 1) ∧
      boundary t.sample = .run)

/-! ## 16-bit arithmetic -/

/-- R280 to R287: the 16-bit sums and differences are exact modulo 0x10000; C is the carry or borrow out of bit 15, H the one out of bit 11, F5
and F3 bits 13 and 11 of the result; ADD leaves S, Z and P/V, and the 16-bit INC and DEC leave every flag. -/
def Obligations.Arithmetic16 : Prop :=
  (∀ (i : Instr) (s : State) (dst src : Reg16) (a b r : Word),
    ((∃ rp, i = .addHLRp rp ∧ dst = .hl ∧ src = pairReg rp) ∨ (∃ pp, i = .addIXPp pp ∧ dst = .ix ∧ src = idxPairReg pp .ix) ∨
      (∃ pp, i = .addIYPp pp ∧ dst = .iy ∧ src = idxPairReg pp .iy)) →
    a = s.get16 dst → b = s.get16 src → r = BitVec.ofNat 16 (a.toNat + b.toNat) →
    exec i s = .next (((s.set16 dst r).setFlags { s.flags with
      h := decide (a.toNat % 4096 + b.toNat % 4096 ≥ 4096)
      n := false
      c := decide (a.toNat + b.toNat ≥ 65536)
      f5 := r.getLsbD 13
      f3 := r.getLsbD 11 }).done plainRecord (tstates i).1)) ∧
  (∀ (s : State) (rp : RegPair) (a b r : Word), a = s.main.hl → b = s.get16 (pairReg rp) →
    r = BitVec.ofNat 16 (a.toNat + b.toNat + s.flags.c.toNat) →
    exec (.adcHLRp rp) s = .next (((s.set16 .hl r).setFlags {
      s := r.getLsbD 15
      z := decide (r = 0)
      f5 := r.getLsbD 13
      h := decide (a.toNat % 4096 + b.toNat % 4096 + s.flags.c.toNat ≥ 4096)
      f3 := r.getLsbD 11
      pv := decide (a.toInt + b.toInt + s.flags.c.toNat < -32768 ∨ a.toInt + b.toInt + s.flags.c.toNat > 32767)
      n := false
      c := decide (a.toNat + b.toNat + s.flags.c.toNat ≥ 65536) }).done plainRecord 15)) ∧
  (∀ (s : State) (rp : RegPair) (a b r : Word), a = s.main.hl → b = s.get16 (pairReg rp) →
    r = BitVec.ofInt 16 ((a.toNat : Int) - b.toNat - s.flags.c.toNat) →
    exec (.sbcHLRp rp) s = .next (((s.set16 .hl r).setFlags {
      s := r.getLsbD 15
      z := decide (r = 0)
      f5 := r.getLsbD 13
      h := decide (a.toNat % 4096 < b.toNat % 4096 + s.flags.c.toNat)
      f3 := r.getLsbD 11
      pv := decide (a.toInt - b.toInt - s.flags.c.toNat < -32768 ∨ a.toInt - b.toInt - s.flags.c.toNat > 32767)
      n := true
      c := decide (a.toNat < b.toNat + s.flags.c.toNat) }).done plainRecord 15)) ∧
  (∀ (i : Instr) (s : State) (q : Reg16) (d : Dir),
    ((∃ rp, i = .incRp rp ∧ q = pairReg rp ∧ d = .inc) ∨ (∃ rp, i = .decRp rp ∧ q = pairReg rp ∧ d = .dec) ∨
      (i = .incIX ∧ q = .ix ∧ d = .inc) ∨ (i = .decIX ∧ q = .ix ∧ d = .dec) ∨
      (i = .incIY ∧ q = .iy ∧ d = .inc) ∨ (i = .decIY ∧ q = .iy ∧ d = .dec)) →
    exec i s = .next ((s.set16 q (match d with | .inc => s.get16 q + 1 | .dec => s.get16 q - 1)).done plainRecord (tstates i).1))

/-! ## Rotates, shifts, bits -/

/-- R300 to R313: the rotates and shifts, each bit moved as the table of R305 says and C the bit moved out, with H and N cleared and F5 and F3 from
the result. The accumulator rotates leave S, Z and P/V; the forms on a register, on (HL) and on (XY+d) write the operand back and set S, Z and the
parity of the result. -/
def Obligations.RotateForms : Prop :=
  (∀ (s : State) (x : Instr × Rot), x ∈ [(Instr.rlca, Rot.rlc), (.rrca, .rrc), (.rla, .rl), (.rra, .rr)] →
      ∀ r : Byte, r = rotByte x.2 s.main.a s.flags.c →
      exec x.1 s = .next ({ s with main := { s.main with
        a := r
        f := Flags.toByte { s.flags with c := rotOut x.2 s.main.a, h := false, n := false, f5 := r.getLsbD 5, f3 := r.getLsbD 3 } } }.done
      plainRecord 4)) ∧
  (∀ (i : Instr) (s : State) (k : Rot) (l : Loc8) (r : Byte), form i = .rot k l → r = rotByte k (s.get8 l) s.flags.c →
      exec i s = .next (((s.set8 l r).setFlags (Flags.ofResult r {
        s := false, z := false, f5 := false, f3 := false
        h := false
        pv := parity r
        n := false
        c := rotOut k (s.get8 l) })).done plainRecord (tstates i).1))

/-- R314 to R316: BIT: Z and P/V the complement of the tested bit, S the tested bit 7, H set, N cleared, C unchanged; F5 and F3 from the register, from
the address's high byte for (XY+d), and anything for (HL); nothing but flags is written. -/
def Obligations.BitForms : Prop :=
  (∀ (s : State) (b : Oct) (r : Reg8), exec (.bitBR b r) s = .next ((s.setFlags {
      s := (b == .o7) && (s.reg r).getLsbD b.toNat
      z := !(s.reg r).getLsbD b.toNat
      f5 := (s.reg r).getLsbD 5
      h := true
      f3 := (s.reg r).getLsbD 3
      pv := !(s.reg r).getLsbD b.toNat
      n := false
      c := s.flags.c }).done plainRecord 8)) ∧
  (∀ (s : State) (b : Oct) (v : Byte), v = s.memRead .data0 s.main.hl → ∃ f5 f3, exec (.bitBIndHL b) s = .next ((s.setFlags {
      s := (b == .o7) && v.getLsbD b.toNat
      z := !v.getLsbD b.toNat
      f5 := f5
      h := true
      f3 := f3
      pv := !v.getLsbD b.toNat
      n := false
      c := s.flags.c }).done plainRecord 12)) ∧
  (∀ (s : State) (x : Idx) (b z : Oct) (d : Byte) (ea : Word) (v : Byte), ea = s.idx x + sext8 d → v = s.memRead .data0 ea →
    exec (match x with | .ix => .bitBIXd b d z | .iy => .bitBIYd b d z) s = .next ((s.setFlags {
      s := (b == .o7) && v.getLsbD b.toNat
      z := !v.getLsbD b.toNat
      f5 := ea.getLsbD 13
      h := true
      f3 := ea.getLsbD 11
      pv := !v.getLsbD b.toNat
      n := false
      c := s.flags.c }).done plainRecord 20))

/-- R317, R318: RES and SET of a register, of (HL) and of (XY+d): the one bit written, every other bit of the operand and every flag as before. -/
def Obligations.ResAndSetForms : Prop :=
  ∀ (i : Instr) (s : State) (on : Bool) (b : Oct) (l : Loc8), form i = .resSet on b l →
    exec i s = .next ((s.set8 l (resSetByte on b (s.get8 l))).done plainRecord (tstates i).1)

/-- R304, D7: the DDCB and FDCB register-copy forms: under `admit` the result goes to memory and then to the plain register; under `refuse` there
is no next state. -/
def Obligations.RegisterCopyForms : Prop :=
  (∀ (i : Instr) (s : State) (k : Rot) (x : Idx) (d : Byte) (r : Reg8) (ea : Word) (v w : Byte), form i = .rotCopy k x d r →
    ea = s.idx x + sext8 d → v = s.memRead .data0 ea → w = rotByte k v s.flags.c →
    (s.params.undocXYCB = .admitted → exec i s = .next ((((s.memWrite ea w).setReg r w).setFlags (Flags.ofResult w {
      s := false, z := false, f5 := false, f3 := false
      h := false
      pv := parity w
      n := false
      c := rotOut k v })).done plainRecord 23)) ∧
    (s.params.undocXYCB = .refused → exec i s = .refused .undocXYCBRefused)) ∧
  (∀ (i : Instr) (s : State) (on : Bool) (b : Oct) (x : Idx) (d : Byte) (r : Reg8) (ea : Word) (w : Byte),
    form i = .resSetCopy on b x d r → ea = s.idx x + sext8 d → w = resSetByte on b (s.memRead .data0 ea) →
    (s.params.undocXYCB = .admitted → exec i s = .next (((s.memWrite ea w).setReg r w).done plainRecord 23)) ∧
    (s.params.undocXYCB = .refused → exec i s = .refused .undocXYCBRefused))

/-- R319, R320: RLD and RRD rotate the three nibbles A[3:0], (HL)[7:4] and (HL)[3:0]; the flags follow the new A and C is unchanged. -/
def Obligations.NibbleRotates : Prop :=
  ∀ (s : State) (x : Instr × Bool), x ∈ [(Instr.rld, true), (.rrd, false)] →
    ∀ (v w r : Byte), v = s.memRead .data0 s.main.hl →
      w.toNat = (if x.2 then v.toNat % 16 * 16 + s.main.a.toNat % 16 else s.main.a.toNat % 16 * 16 + v.toNat / 16) →
      r.toNat = s.main.a.toNat / 16 * 16 + (if x.2 then v.toNat / 16 else v.toNat % 16) →
    exec x.1 s = .next (({ s.memWrite s.main.hl w with main := { s.main with a := r } }.setFlags (Flags.ofResult r {
      s := false, z := false, f5 := false, f3 := false
      h := false
      pv := parity r
      n := false
      c := s.flags.c })).done plainRecord 18)

/-! ## Jumps, calls, returns -/

/-- R330 to R336, R105: the jumps: PC at the target when the condition holds (the target of a relative jump is PC past the instruction plus the
displacement), else PC as it is; DJNZ decrements B and jumps while it is not 0; no flag is written. -/
def Obligations.JumpForms : Prop :=
  (∀ (s : State) (nn : Word), exec (.jpNn nn) s = .next ({ s with pc := nn }.done plainRecord 10)) ∧
  (∀ (s : State) (cc : Cond) (nn : Word), exec (.jpCcNn cc nn) s =
    .next ({ s with pc := if condHolds cc s.flags then nn else s.pc }.done plainRecord 10)) ∧
  (∀ (s : State) (e : Byte), exec (.jr e) s = .next ({ s with pc := s.pc + sext8 e }.done plainRecord 12)) ∧
  (∀ (s : State) (cc : JrCond) (e : Byte), exec (.jrCc cc e) s =
    .next (if condHolds cc.cond s.flags then { s with pc := s.pc + sext8 e }.done plainRecord 12 else s.done plainRecord 7)) ∧
  (∀ (s : State) (e : Byte), exec (.djnz e) s =
    .next (if s.main.b = 1 then { s with main := { s.main with b := 0 } }.done plainRecord 8
      else { s with main := { s.main with b := s.main.b - 1 }, pc := s.pc + sext8 e }.done plainRecord 13)) ∧
  (∀ s : State, exec .jpHL s = .next ({ s with pc := s.main.hl }.done plainRecord 4)) ∧
  (∀ s : State, exec .jpIX s = .next ({ s with pc := s.ix }.done plainRecord 8)) ∧
  (∀ s : State, exec .jpIY s = .next ({ s with pc := s.iy }.done plainRecord 8)) ∧
  (∀ fl : Flags, condHolds .nz fl = !fl.z ∧ condHolds .z fl = fl.z ∧ condHolds .nc fl = !fl.c ∧ condHolds .c fl = fl.c ∧
    condHolds .po fl = !fl.pv ∧ condHolds .pe fl = fl.pv ∧ condHolds .p fl = !fl.s ∧ condHolds .m fl = fl.s)

/-- R337 to R343: CALL and RST push the address after them and jump; RET takes PC from the stack with SP higher by 2 and the record's return bit set; the
conditional forms do so only when their condition holds; RETI and RETN, its mirrors included, also copy IFF2 into IFF1. -/
def Obligations.CallAndReturnForms : Prop :=
  (∀ (i : Instr) (s : State) (v : Word),
    (i = .callNn v ∨ (∃ cc, i = .callCcNn cc v ∧ condHolds cc s.flags = true) ∨ (∃ p, i = .rst p ∧ v = BitVec.ofNat 16 (8 * p.toNat))) →
    ∃ t, exec i s = .next t ∧ Pushed s t s.pc ∧ t = { s with pc := v, sp := t.sp, mem := t.mem }.done plainRecord (tstates i).1) ∧
  (∀ (s : State) (cc : Cond) (nn : Word), condHolds cc s.flags = false → exec (.callCcNn cc nn) s = .next (s.done plainRecord 10)) ∧
  (∀ (i : Instr) (s : State), (i = .ret ∨ (∃ cc, i = .retCc cc ∧ condHolds cc s.flags = true)) →
    exec i s = .next ({ s with pc := word (s.memRead .data1 (s.sp + 1)) (s.memRead .data0 s.sp), sp := s.sp + 2 }.done
      ⟨true, false, false, false⟩ (tstates i).1)) ∧
  (∀ (s : State) (cc : Cond), condHolds cc s.flags = false → exec (.retCc cc) s = .next (s.done plainRecord 5)) ∧
  (∀ (i : Instr) (s : State), (i = .reti ∨ ∃ y, i = .retn y) →
    exec i s = .next ({ s with
      pc := word (s.memRead .data1 (s.sp + 1)) (s.memRead .data0 s.sp)
      sp := s.sp + 2
      iff1 := s.iff2 }.done ⟨true, false, false, false⟩ 14))

/-! ## Input and output -/

/-- R360 to R365: the single port accesses: a read takes some byte the host answers, and IN r,(C) and IN F,(C) set the flags from it with C
unchanged; a write is an event and writes nothing in the engine. -/
def Obligations.PortForms : Prop :=
  (∀ (s : State) (n : Byte), ∃ v, exec (.inAPortN n) s = .next { s with
      main := { s.main with a := v }
      events := .portRead n v :: .notify plainRecord :: s.events
      cycles := s.cycles + 11 }) ∧
  (∀ (s : State) (r : Reg8), ∃ v, exec (.inRPortC r) s = .next { (s.setReg r v).setFlags (Flags.ofResult v {
        s := false, z := false, f5 := false, f3 := false
        h := false
        pv := parity v
        n := false
        c := s.flags.c }) with
      events := .portRead s.main.c v :: .notify plainRecord :: s.events
      cycles := s.cycles + 12 }) ∧
  (∀ s : State, ∃ v, exec .inFPortC s = .next { s.setFlags (Flags.ofResult v {
        s := false, z := false, f5 := false, f3 := false
        h := false
        pv := parity v
        n := false
        c := s.flags.c }) with
      events := .portRead s.main.c v :: .notify plainRecord :: s.events
      cycles := s.cycles + 12 }) ∧
  (∀ (s : State) (n : Byte), exec (.outPortNA n) s = .next { s with
      events := .portWrite n s.main.a :: .notify plainRecord :: s.events
      cycles := s.cycles + 11 }) ∧
  (∀ (s : State) (r : Reg8), exec (.outPortCR r) s = .next { s with
      events := .portWrite s.main.c (s.reg r) :: .notify plainRecord :: s.events
      cycles := s.cycles + 12 }) ∧
  (∀ s : State, exec .outPortC0 s = .next { s with
      events := .portWrite s.main.c 0x00 :: .notify plainRecord :: s.events
      cycles := s.cycles + 12 })
end

