-- ==== Sys2Proof/Laws/State.lean ====
section
/-! SUPPORT. One lemma for each field of State and each update of Machine/Ops.lean and Machine/Operands.lean: what the update leaves in the field. Later proofs rewrite with these and unfold no record update. -/

namespace Sys2Proof.Machine

variable (s : State)

/-! ## Outputs -/

@[simp] theorem State.emit_main (e : Event) : (s.emit e).main = s.main := rfl
@[simp] theorem State.emit_alt (e : Event) : (s.emit e).alt = s.alt := rfl
@[simp] theorem State.emit_ix (e : Event) : (s.emit e).ix = s.ix := rfl
@[simp] theorem State.emit_iy (e : Event) : (s.emit e).iy = s.iy := rfl
@[simp] theorem State.emit_sp (e : Event) : (s.emit e).sp = s.sp := rfl
@[simp] theorem State.emit_pc (e : Event) : (s.emit e).pc = s.pc := rfl
@[simp] theorem State.emit_i (e : Event) : (s.emit e).i = s.i := rfl
@[simp] theorem State.emit_r (e : Event) : (s.emit e).r = s.r := rfl
@[simp] theorem State.emit_iff1 (e : Event) : (s.emit e).iff1 = s.iff1 := rfl
@[simp] theorem State.emit_iff2 (e : Event) : (s.emit e).iff2 = s.iff2 := rfl
@[simp] theorem State.emit_im (e : Event) : (s.emit e).im = s.im := rfl
@[simp] theorem State.emit_halted (e : Event) : (s.emit e).halted = s.halted := rfl
@[simp] theorem State.emit_intInhibit (e : Event) : (s.emit e).intInhibit = s.intInhibit := rfl
@[simp] theorem State.emit_mem (e : Event) : (s.emit e).mem = s.mem := rfl
@[simp] theorem State.emit_nmiReq (e : Event) : (s.emit e).nmiReq = s.nmiReq := rfl
@[simp] theorem State.emit_intReq (e : Event) : (s.emit e).intReq = s.intReq := rfl
@[simp] theorem State.emit_busByte (e : Event) : (s.emit e).busByte = s.busByte := rfl
@[simp] theorem State.emit_inputs (e : Event) : (s.emit e).inputs = s.inputs := rfl
@[simp] theorem State.emit_cycles (e : Event) : (s.emit e).cycles = s.cycles := rfl
@[simp] theorem State.emit_events (e : Event) : (s.emit e).events = e :: s.events := rfl
@[simp] theorem State.emit_draw (e : Event) : (s.emit e).draw = s.draw := rfl
@[simp] theorem State.emit_params (e : Event) : (s.emit e).params = s.params := rfl

@[simp] theorem State.notifyPlain_main : (s.notifyPlain).main = s.main := rfl
@[simp] theorem State.notifyPlain_alt : (s.notifyPlain).alt = s.alt := rfl
@[simp] theorem State.notifyPlain_ix : (s.notifyPlain).ix = s.ix := rfl
@[simp] theorem State.notifyPlain_iy : (s.notifyPlain).iy = s.iy := rfl
@[simp] theorem State.notifyPlain_sp : (s.notifyPlain).sp = s.sp := rfl
@[simp] theorem State.notifyPlain_pc : (s.notifyPlain).pc = s.pc := rfl
@[simp] theorem State.notifyPlain_i : (s.notifyPlain).i = s.i := rfl
@[simp] theorem State.notifyPlain_r : (s.notifyPlain).r = s.r := rfl
@[simp] theorem State.notifyPlain_iff1 : (s.notifyPlain).iff1 = s.iff1 := rfl
@[simp] theorem State.notifyPlain_iff2 : (s.notifyPlain).iff2 = s.iff2 := rfl
@[simp] theorem State.notifyPlain_im : (s.notifyPlain).im = s.im := rfl
@[simp] theorem State.notifyPlain_halted : (s.notifyPlain).halted = s.halted := rfl
@[simp] theorem State.notifyPlain_intInhibit : (s.notifyPlain).intInhibit = s.intInhibit := rfl
@[simp] theorem State.notifyPlain_mem : (s.notifyPlain).mem = s.mem := rfl
@[simp] theorem State.notifyPlain_nmiReq : (s.notifyPlain).nmiReq = s.nmiReq := rfl
@[simp] theorem State.notifyPlain_intReq : (s.notifyPlain).intReq = s.intReq := rfl
@[simp] theorem State.notifyPlain_busByte : (s.notifyPlain).busByte = s.busByte := rfl
@[simp] theorem State.notifyPlain_inputs : (s.notifyPlain).inputs = s.inputs := rfl
@[simp] theorem State.notifyPlain_cycles : (s.notifyPlain).cycles = s.cycles := rfl
@[simp] theorem State.notifyPlain_events : (s.notifyPlain).events = .notify ⟨false, false, false, false⟩ :: s.events := rfl
@[simp] theorem State.notifyPlain_draw : (s.notifyPlain).draw = s.draw := rfl
@[simp] theorem State.notifyPlain_params : (s.notifyPlain).params = s.params := rfl

@[simp] theorem State.notifyReturn_main (b : Bool) : (s.notifyReturn b).main = s.main := rfl
@[simp] theorem State.notifyReturn_alt (b : Bool) : (s.notifyReturn b).alt = s.alt := rfl
@[simp] theorem State.notifyReturn_ix (b : Bool) : (s.notifyReturn b).ix = s.ix := rfl
@[simp] theorem State.notifyReturn_iy (b : Bool) : (s.notifyReturn b).iy = s.iy := rfl
@[simp] theorem State.notifyReturn_sp (b : Bool) : (s.notifyReturn b).sp = s.sp := rfl
@[simp] theorem State.notifyReturn_pc (b : Bool) : (s.notifyReturn b).pc = s.pc := rfl
@[simp] theorem State.notifyReturn_i (b : Bool) : (s.notifyReturn b).i = s.i := rfl
@[simp] theorem State.notifyReturn_r (b : Bool) : (s.notifyReturn b).r = s.r := rfl
@[simp] theorem State.notifyReturn_iff1 (b : Bool) : (s.notifyReturn b).iff1 = s.iff1 := rfl
@[simp] theorem State.notifyReturn_iff2 (b : Bool) : (s.notifyReturn b).iff2 = s.iff2 := rfl
@[simp] theorem State.notifyReturn_im (b : Bool) : (s.notifyReturn b).im = s.im := rfl
@[simp] theorem State.notifyReturn_halted (b : Bool) : (s.notifyReturn b).halted = s.halted := rfl
@[simp] theorem State.notifyReturn_intInhibit (b : Bool) : (s.notifyReturn b).intInhibit = s.intInhibit := rfl
@[simp] theorem State.notifyReturn_mem (b : Bool) : (s.notifyReturn b).mem = s.mem := rfl
@[simp] theorem State.notifyReturn_nmiReq (b : Bool) : (s.notifyReturn b).nmiReq = s.nmiReq := rfl
@[simp] theorem State.notifyReturn_intReq (b : Bool) : (s.notifyReturn b).intReq = s.intReq := rfl
@[simp] theorem State.notifyReturn_busByte (b : Bool) : (s.notifyReturn b).busByte = s.busByte := rfl
@[simp] theorem State.notifyReturn_inputs (b : Bool) : (s.notifyReturn b).inputs = s.inputs := rfl
@[simp] theorem State.notifyReturn_cycles (b : Bool) : (s.notifyReturn b).cycles = s.cycles := rfl
@[simp] theorem State.notifyReturn_events (b : Bool) : (s.notifyReturn b).events = .notify ⟨b, false, false, false⟩ :: s.events := rfl
@[simp] theorem State.notifyReturn_draw (b : Bool) : (s.notifyReturn b).draw = s.draw := rfl
@[simp] theorem State.notifyReturn_params (b : Bool) : (s.notifyReturn b).params = s.params := rfl

@[simp] theorem State.notifyHalt_main : (s.notifyHalt).main = s.main := rfl
@[simp] theorem State.notifyHalt_alt : (s.notifyHalt).alt = s.alt := rfl
@[simp] theorem State.notifyHalt_ix : (s.notifyHalt).ix = s.ix := rfl
@[simp] theorem State.notifyHalt_iy : (s.notifyHalt).iy = s.iy := rfl
@[simp] theorem State.notifyHalt_sp : (s.notifyHalt).sp = s.sp := rfl
@[simp] theorem State.notifyHalt_pc : (s.notifyHalt).pc = s.pc := rfl
@[simp] theorem State.notifyHalt_i : (s.notifyHalt).i = s.i := rfl
@[simp] theorem State.notifyHalt_r : (s.notifyHalt).r = s.r := rfl
@[simp] theorem State.notifyHalt_iff1 : (s.notifyHalt).iff1 = s.iff1 := rfl
@[simp] theorem State.notifyHalt_iff2 : (s.notifyHalt).iff2 = s.iff2 := rfl
@[simp] theorem State.notifyHalt_im : (s.notifyHalt).im = s.im := rfl
@[simp] theorem State.notifyHalt_halted : (s.notifyHalt).halted = s.halted := rfl
@[simp] theorem State.notifyHalt_intInhibit : (s.notifyHalt).intInhibit = s.intInhibit := rfl
@[simp] theorem State.notifyHalt_mem : (s.notifyHalt).mem = s.mem := rfl
@[simp] theorem State.notifyHalt_nmiReq : (s.notifyHalt).nmiReq = s.nmiReq := rfl
@[simp] theorem State.notifyHalt_intReq : (s.notifyHalt).intReq = s.intReq := rfl
@[simp] theorem State.notifyHalt_busByte : (s.notifyHalt).busByte = s.busByte := rfl
@[simp] theorem State.notifyHalt_inputs : (s.notifyHalt).inputs = s.inputs := rfl
@[simp] theorem State.notifyHalt_cycles : (s.notifyHalt).cycles = s.cycles := rfl
@[simp] theorem State.notifyHalt_events : (s.notifyHalt).events = .notify ⟨false, true, false, false⟩ :: s.events := rfl
@[simp] theorem State.notifyHalt_draw : (s.notifyHalt).draw = s.draw := rfl
@[simp] theorem State.notifyHalt_params : (s.notifyHalt).params = s.params := rfl

@[simp] theorem State.notifyLdSp_main (b : Bool) : (s.notifyLdSp b).main = s.main := rfl
@[simp] theorem State.notifyLdSp_alt (b : Bool) : (s.notifyLdSp b).alt = s.alt := rfl
@[simp] theorem State.notifyLdSp_ix (b : Bool) : (s.notifyLdSp b).ix = s.ix := rfl
@[simp] theorem State.notifyLdSp_iy (b : Bool) : (s.notifyLdSp b).iy = s.iy := rfl
@[simp] theorem State.notifyLdSp_sp (b : Bool) : (s.notifyLdSp b).sp = s.sp := rfl
@[simp] theorem State.notifyLdSp_pc (b : Bool) : (s.notifyLdSp b).pc = s.pc := rfl
@[simp] theorem State.notifyLdSp_i (b : Bool) : (s.notifyLdSp b).i = s.i := rfl
@[simp] theorem State.notifyLdSp_r (b : Bool) : (s.notifyLdSp b).r = s.r := rfl
@[simp] theorem State.notifyLdSp_iff1 (b : Bool) : (s.notifyLdSp b).iff1 = s.iff1 := rfl
@[simp] theorem State.notifyLdSp_iff2 (b : Bool) : (s.notifyLdSp b).iff2 = s.iff2 := rfl
@[simp] theorem State.notifyLdSp_im (b : Bool) : (s.notifyLdSp b).im = s.im := rfl
@[simp] theorem State.notifyLdSp_halted (b : Bool) : (s.notifyLdSp b).halted = s.halted := rfl
@[simp] theorem State.notifyLdSp_intInhibit (b : Bool) : (s.notifyLdSp b).intInhibit = s.intInhibit := rfl
@[simp] theorem State.notifyLdSp_mem (b : Bool) : (s.notifyLdSp b).mem = s.mem := rfl
@[simp] theorem State.notifyLdSp_nmiReq (b : Bool) : (s.notifyLdSp b).nmiReq = s.nmiReq := rfl
@[simp] theorem State.notifyLdSp_intReq (b : Bool) : (s.notifyLdSp b).intReq = s.intReq := rfl
@[simp] theorem State.notifyLdSp_busByte (b : Bool) : (s.notifyLdSp b).busByte = s.busByte := rfl
@[simp] theorem State.notifyLdSp_inputs (b : Bool) : (s.notifyLdSp b).inputs = s.inputs := rfl
@[simp] theorem State.notifyLdSp_cycles (b : Bool) : (s.notifyLdSp b).cycles = s.cycles := rfl
@[simp] theorem State.notifyLdSp_events (b : Bool) : (s.notifyLdSp b).events = .notify ⟨false, false, b, false⟩ :: s.events := rfl
@[simp] theorem State.notifyLdSp_draw (b : Bool) : (s.notifyLdSp b).draw = s.draw := rfl
@[simp] theorem State.notifyLdSp_params (b : Bool) : (s.notifyLdSp b).params = s.params := rfl

@[simp] theorem State.notifyEiDi_main : (s.notifyEiDi).main = s.main := rfl
@[simp] theorem State.notifyEiDi_alt : (s.notifyEiDi).alt = s.alt := rfl
@[simp] theorem State.notifyEiDi_ix : (s.notifyEiDi).ix = s.ix := rfl
@[simp] theorem State.notifyEiDi_iy : (s.notifyEiDi).iy = s.iy := rfl
@[simp] theorem State.notifyEiDi_sp : (s.notifyEiDi).sp = s.sp := rfl
@[simp] theorem State.notifyEiDi_pc : (s.notifyEiDi).pc = s.pc := rfl
@[simp] theorem State.notifyEiDi_i : (s.notifyEiDi).i = s.i := rfl
@[simp] theorem State.notifyEiDi_r : (s.notifyEiDi).r = s.r := rfl
@[simp] theorem State.notifyEiDi_iff1 : (s.notifyEiDi).iff1 = s.iff1 := rfl
@[simp] theorem State.notifyEiDi_iff2 : (s.notifyEiDi).iff2 = s.iff2 := rfl
@[simp] theorem State.notifyEiDi_im : (s.notifyEiDi).im = s.im := rfl
@[simp] theorem State.notifyEiDi_halted : (s.notifyEiDi).halted = s.halted := rfl
@[simp] theorem State.notifyEiDi_intInhibit : (s.notifyEiDi).intInhibit = s.intInhibit := rfl
@[simp] theorem State.notifyEiDi_mem : (s.notifyEiDi).mem = s.mem := rfl
@[simp] theorem State.notifyEiDi_nmiReq : (s.notifyEiDi).nmiReq = s.nmiReq := rfl
@[simp] theorem State.notifyEiDi_intReq : (s.notifyEiDi).intReq = s.intReq := rfl
@[simp] theorem State.notifyEiDi_busByte : (s.notifyEiDi).busByte = s.busByte := rfl
@[simp] theorem State.notifyEiDi_inputs : (s.notifyEiDi).inputs = s.inputs := rfl
@[simp] theorem State.notifyEiDi_cycles : (s.notifyEiDi).cycles = s.cycles := rfl
@[simp] theorem State.notifyEiDi_events : (s.notifyEiDi).events = .notify ⟨false, false, false, true⟩ :: s.events := rfl
@[simp] theorem State.notifyEiDi_draw : (s.notifyEiDi).draw = s.draw := rfl
@[simp] theorem State.notifyEiDi_params : (s.notifyEiDi).params = s.params := rfl

@[simp] theorem State.portRead_main (p : Byte) : (s.portRead p).main = s.main := rfl
@[simp] theorem State.portRead_alt (p : Byte) : (s.portRead p).alt = s.alt := rfl
@[simp] theorem State.portRead_ix (p : Byte) : (s.portRead p).ix = s.ix := rfl
@[simp] theorem State.portRead_iy (p : Byte) : (s.portRead p).iy = s.iy := rfl
@[simp] theorem State.portRead_sp (p : Byte) : (s.portRead p).sp = s.sp := rfl
@[simp] theorem State.portRead_pc (p : Byte) : (s.portRead p).pc = s.pc := rfl
@[simp] theorem State.portRead_i (p : Byte) : (s.portRead p).i = s.i := rfl
@[simp] theorem State.portRead_r (p : Byte) : (s.portRead p).r = s.r := rfl
@[simp] theorem State.portRead_iff1 (p : Byte) : (s.portRead p).iff1 = s.iff1 := rfl
@[simp] theorem State.portRead_iff2 (p : Byte) : (s.portRead p).iff2 = s.iff2 := rfl
@[simp] theorem State.portRead_im (p : Byte) : (s.portRead p).im = s.im := rfl
@[simp] theorem State.portRead_halted (p : Byte) : (s.portRead p).halted = s.halted := rfl
@[simp] theorem State.portRead_intInhibit (p : Byte) : (s.portRead p).intInhibit = s.intInhibit := rfl
@[simp] theorem State.portRead_mem (p : Byte) : (s.portRead p).mem = s.mem := rfl
@[simp] theorem State.portRead_nmiReq (p : Byte) : (s.portRead p).nmiReq = s.nmiReq := rfl
@[simp] theorem State.portRead_intReq (p : Byte) : (s.portRead p).intReq = s.intReq := rfl
@[simp] theorem State.portRead_busByte (p : Byte) : (s.portRead p).busByte = s.busByte := rfl
@[simp] theorem State.portRead_inputs (p : Byte) : (s.portRead p).inputs = s.inputs := rfl
@[simp] theorem State.portRead_cycles (p : Byte) : (s.portRead p).cycles = s.cycles := rfl
@[simp] theorem State.portRead_events (p : Byte) : (s.portRead p).events = .portRead p (s.portValue p) :: s.events := rfl
@[simp] theorem State.portRead_draw (p : Byte) : (s.portRead p).draw = s.draw := rfl
@[simp] theorem State.portRead_params (p : Byte) : (s.portRead p).params = s.params := rfl

@[simp] theorem State.portWrite_main (p : Byte) (v : Byte) : (s.portWrite p v).main = s.main := rfl
@[simp] theorem State.portWrite_alt (p : Byte) (v : Byte) : (s.portWrite p v).alt = s.alt := rfl
@[simp] theorem State.portWrite_ix (p : Byte) (v : Byte) : (s.portWrite p v).ix = s.ix := rfl
@[simp] theorem State.portWrite_iy (p : Byte) (v : Byte) : (s.portWrite p v).iy = s.iy := rfl
@[simp] theorem State.portWrite_sp (p : Byte) (v : Byte) : (s.portWrite p v).sp = s.sp := rfl
@[simp] theorem State.portWrite_pc (p : Byte) (v : Byte) : (s.portWrite p v).pc = s.pc := rfl
@[simp] theorem State.portWrite_i (p : Byte) (v : Byte) : (s.portWrite p v).i = s.i := rfl
@[simp] theorem State.portWrite_r (p : Byte) (v : Byte) : (s.portWrite p v).r = s.r := rfl
@[simp] theorem State.portWrite_iff1 (p : Byte) (v : Byte) : (s.portWrite p v).iff1 = s.iff1 := rfl
@[simp] theorem State.portWrite_iff2 (p : Byte) (v : Byte) : (s.portWrite p v).iff2 = s.iff2 := rfl
@[simp] theorem State.portWrite_im (p : Byte) (v : Byte) : (s.portWrite p v).im = s.im := rfl
@[simp] theorem State.portWrite_halted (p : Byte) (v : Byte) : (s.portWrite p v).halted = s.halted := rfl
@[simp] theorem State.portWrite_intInhibit (p : Byte) (v : Byte) : (s.portWrite p v).intInhibit = s.intInhibit := rfl
@[simp] theorem State.portWrite_mem (p : Byte) (v : Byte) : (s.portWrite p v).mem = s.mem := rfl
@[simp] theorem State.portWrite_nmiReq (p : Byte) (v : Byte) : (s.portWrite p v).nmiReq = s.nmiReq := rfl
@[simp] theorem State.portWrite_intReq (p : Byte) (v : Byte) : (s.portWrite p v).intReq = s.intReq := rfl
@[simp] theorem State.portWrite_busByte (p : Byte) (v : Byte) : (s.portWrite p v).busByte = s.busByte := rfl
@[simp] theorem State.portWrite_inputs (p : Byte) (v : Byte) : (s.portWrite p v).inputs = s.inputs := rfl
@[simp] theorem State.portWrite_cycles (p : Byte) (v : Byte) : (s.portWrite p v).cycles = s.cycles := rfl
@[simp] theorem State.portWrite_events (p : Byte) (v : Byte) : (s.portWrite p v).events = .portWrite p v :: s.events := rfl
@[simp] theorem State.portWrite_draw (p : Byte) (v : Byte) : (s.portWrite p v).draw = s.draw := rfl
@[simp] theorem State.portWrite_params (p : Byte) (v : Byte) : (s.portWrite p v).params = s.params := rfl

@[simp] theorem State.tick_main (t : Nat) : (s.tick t).main = s.main := rfl
@[simp] theorem State.tick_alt (t : Nat) : (s.tick t).alt = s.alt := rfl
@[simp] theorem State.tick_ix (t : Nat) : (s.tick t).ix = s.ix := rfl
@[simp] theorem State.tick_iy (t : Nat) : (s.tick t).iy = s.iy := rfl
@[simp] theorem State.tick_sp (t : Nat) : (s.tick t).sp = s.sp := rfl
@[simp] theorem State.tick_pc (t : Nat) : (s.tick t).pc = s.pc := rfl
@[simp] theorem State.tick_i (t : Nat) : (s.tick t).i = s.i := rfl
@[simp] theorem State.tick_r (t : Nat) : (s.tick t).r = s.r := rfl
@[simp] theorem State.tick_iff1 (t : Nat) : (s.tick t).iff1 = s.iff1 := rfl
@[simp] theorem State.tick_iff2 (t : Nat) : (s.tick t).iff2 = s.iff2 := rfl
@[simp] theorem State.tick_im (t : Nat) : (s.tick t).im = s.im := rfl
@[simp] theorem State.tick_halted (t : Nat) : (s.tick t).halted = s.halted := rfl
@[simp] theorem State.tick_intInhibit (t : Nat) : (s.tick t).intInhibit = s.intInhibit := rfl
@[simp] theorem State.tick_mem (t : Nat) : (s.tick t).mem = s.mem := rfl
@[simp] theorem State.tick_nmiReq (t : Nat) : (s.tick t).nmiReq = s.nmiReq := rfl
@[simp] theorem State.tick_intReq (t : Nat) : (s.tick t).intReq = s.intReq := rfl
@[simp] theorem State.tick_busByte (t : Nat) : (s.tick t).busByte = s.busByte := rfl
@[simp] theorem State.tick_inputs (t : Nat) : (s.tick t).inputs = s.inputs := rfl
@[simp] theorem State.tick_cycles (t : Nat) : (s.tick t).cycles = s.cycles + t := rfl
@[simp] theorem State.tick_events (t : Nat) : (s.tick t).events = s.events := rfl
@[simp] theorem State.tick_draw (t : Nat) : (s.tick t).draw = s.draw := rfl
@[simp] theorem State.tick_params (t : Nat) : (s.tick t).params = s.params := rfl

/-! ## Registers -/

@[simp] theorem State.setReg_main (x : Reg8) (v : Byte) : (s.setReg x v).main = s.main.set x v := rfl
@[simp] theorem State.setReg_alt (x : Reg8) (v : Byte) : (s.setReg x v).alt = s.alt := rfl
@[simp] theorem State.setReg_ix (x : Reg8) (v : Byte) : (s.setReg x v).ix = s.ix := rfl
@[simp] theorem State.setReg_iy (x : Reg8) (v : Byte) : (s.setReg x v).iy = s.iy := rfl
@[simp] theorem State.setReg_sp (x : Reg8) (v : Byte) : (s.setReg x v).sp = s.sp := rfl
@[simp] theorem State.setReg_pc (x : Reg8) (v : Byte) : (s.setReg x v).pc = s.pc := rfl
@[simp] theorem State.setReg_i (x : Reg8) (v : Byte) : (s.setReg x v).i = s.i := rfl
@[simp] theorem State.setReg_r (x : Reg8) (v : Byte) : (s.setReg x v).r = s.r := rfl
@[simp] theorem State.setReg_iff1 (x : Reg8) (v : Byte) : (s.setReg x v).iff1 = s.iff1 := rfl
@[simp] theorem State.setReg_iff2 (x : Reg8) (v : Byte) : (s.setReg x v).iff2 = s.iff2 := rfl
@[simp] theorem State.setReg_im (x : Reg8) (v : Byte) : (s.setReg x v).im = s.im := rfl
@[simp] theorem State.setReg_halted (x : Reg8) (v : Byte) : (s.setReg x v).halted = s.halted := rfl
@[simp] theorem State.setReg_intInhibit (x : Reg8) (v : Byte) : (s.setReg x v).intInhibit = s.intInhibit := rfl
@[simp] theorem State.setReg_mem (x : Reg8) (v : Byte) : (s.setReg x v).mem = s.mem := rfl
@[simp] theorem State.setReg_nmiReq (x : Reg8) (v : Byte) : (s.setReg x v).nmiReq = s.nmiReq := rfl
@[simp] theorem State.setReg_intReq (x : Reg8) (v : Byte) : (s.setReg x v).intReq = s.intReq := rfl
@[simp] theorem State.setReg_busByte (x : Reg8) (v : Byte) : (s.setReg x v).busByte = s.busByte := rfl
@[simp] theorem State.setReg_inputs (x : Reg8) (v : Byte) : (s.setReg x v).inputs = s.inputs := rfl
@[simp] theorem State.setReg_cycles (x : Reg8) (v : Byte) : (s.setReg x v).cycles = s.cycles := rfl
@[simp] theorem State.setReg_events (x : Reg8) (v : Byte) : (s.setReg x v).events = s.events := rfl
@[simp] theorem State.setReg_draw (x : Reg8) (v : Byte) : (s.setReg x v).draw = s.draw := rfl
@[simp] theorem State.setReg_params (x : Reg8) (v : Byte) : (s.setReg x v).params = s.params := rfl

@[simp] theorem State.setMain_main (k : Bank) : (s.setMain k).main = k := rfl
@[simp] theorem State.setMain_alt (k : Bank) : (s.setMain k).alt = s.alt := rfl
@[simp] theorem State.setMain_ix (k : Bank) : (s.setMain k).ix = s.ix := rfl
@[simp] theorem State.setMain_iy (k : Bank) : (s.setMain k).iy = s.iy := rfl
@[simp] theorem State.setMain_sp (k : Bank) : (s.setMain k).sp = s.sp := rfl
@[simp] theorem State.setMain_pc (k : Bank) : (s.setMain k).pc = s.pc := rfl
@[simp] theorem State.setMain_i (k : Bank) : (s.setMain k).i = s.i := rfl
@[simp] theorem State.setMain_r (k : Bank) : (s.setMain k).r = s.r := rfl
@[simp] theorem State.setMain_iff1 (k : Bank) : (s.setMain k).iff1 = s.iff1 := rfl
@[simp] theorem State.setMain_iff2 (k : Bank) : (s.setMain k).iff2 = s.iff2 := rfl
@[simp] theorem State.setMain_im (k : Bank) : (s.setMain k).im = s.im := rfl
@[simp] theorem State.setMain_halted (k : Bank) : (s.setMain k).halted = s.halted := rfl
@[simp] theorem State.setMain_intInhibit (k : Bank) : (s.setMain k).intInhibit = s.intInhibit := rfl
@[simp] theorem State.setMain_mem (k : Bank) : (s.setMain k).mem = s.mem := rfl
@[simp] theorem State.setMain_nmiReq (k : Bank) : (s.setMain k).nmiReq = s.nmiReq := rfl
@[simp] theorem State.setMain_intReq (k : Bank) : (s.setMain k).intReq = s.intReq := rfl
@[simp] theorem State.setMain_busByte (k : Bank) : (s.setMain k).busByte = s.busByte := rfl
@[simp] theorem State.setMain_inputs (k : Bank) : (s.setMain k).inputs = s.inputs := rfl
@[simp] theorem State.setMain_cycles (k : Bank) : (s.setMain k).cycles = s.cycles := rfl
@[simp] theorem State.setMain_events (k : Bank) : (s.setMain k).events = s.events := rfl
@[simp] theorem State.setMain_draw (k : Bank) : (s.setMain k).draw = s.draw := rfl
@[simp] theorem State.setMain_params (k : Bank) : (s.setMain k).params = s.params := rfl

@[simp] theorem State.setFlags_main (fl : Flags) : (s.setFlags fl).main = { s.main with f := fl.toByte } := rfl
@[simp] theorem State.setFlags_alt (fl : Flags) : (s.setFlags fl).alt = s.alt := rfl
@[simp] theorem State.setFlags_ix (fl : Flags) : (s.setFlags fl).ix = s.ix := rfl
@[simp] theorem State.setFlags_iy (fl : Flags) : (s.setFlags fl).iy = s.iy := rfl
@[simp] theorem State.setFlags_sp (fl : Flags) : (s.setFlags fl).sp = s.sp := rfl
@[simp] theorem State.setFlags_pc (fl : Flags) : (s.setFlags fl).pc = s.pc := rfl
@[simp] theorem State.setFlags_i (fl : Flags) : (s.setFlags fl).i = s.i := rfl
@[simp] theorem State.setFlags_r (fl : Flags) : (s.setFlags fl).r = s.r := rfl
@[simp] theorem State.setFlags_iff1 (fl : Flags) : (s.setFlags fl).iff1 = s.iff1 := rfl
@[simp] theorem State.setFlags_iff2 (fl : Flags) : (s.setFlags fl).iff2 = s.iff2 := rfl
@[simp] theorem State.setFlags_im (fl : Flags) : (s.setFlags fl).im = s.im := rfl
@[simp] theorem State.setFlags_halted (fl : Flags) : (s.setFlags fl).halted = s.halted := rfl
@[simp] theorem State.setFlags_intInhibit (fl : Flags) : (s.setFlags fl).intInhibit = s.intInhibit := rfl
@[simp] theorem State.setFlags_mem (fl : Flags) : (s.setFlags fl).mem = s.mem := rfl
@[simp] theorem State.setFlags_nmiReq (fl : Flags) : (s.setFlags fl).nmiReq = s.nmiReq := rfl
@[simp] theorem State.setFlags_intReq (fl : Flags) : (s.setFlags fl).intReq = s.intReq := rfl
@[simp] theorem State.setFlags_busByte (fl : Flags) : (s.setFlags fl).busByte = s.busByte := rfl
@[simp] theorem State.setFlags_inputs (fl : Flags) : (s.setFlags fl).inputs = s.inputs := rfl
@[simp] theorem State.setFlags_cycles (fl : Flags) : (s.setFlags fl).cycles = s.cycles := rfl
@[simp] theorem State.setFlags_events (fl : Flags) : (s.setFlags fl).events = s.events := rfl
@[simp] theorem State.setFlags_draw (fl : Flags) : (s.setFlags fl).draw = s.draw := rfl
@[simp] theorem State.setFlags_params (fl : Flags) : (s.setFlags fl).params = s.params := rfl

@[simp] theorem State.setAF_main (x : Byte × Flags) : (s.setAF x).main = { s.main with a := x.1, f := x.2.toByte } := rfl
@[simp] theorem State.setAF_alt (x : Byte × Flags) : (s.setAF x).alt = s.alt := rfl
@[simp] theorem State.setAF_ix (x : Byte × Flags) : (s.setAF x).ix = s.ix := rfl
@[simp] theorem State.setAF_iy (x : Byte × Flags) : (s.setAF x).iy = s.iy := rfl
@[simp] theorem State.setAF_sp (x : Byte × Flags) : (s.setAF x).sp = s.sp := rfl
@[simp] theorem State.setAF_pc (x : Byte × Flags) : (s.setAF x).pc = s.pc := rfl
@[simp] theorem State.setAF_i (x : Byte × Flags) : (s.setAF x).i = s.i := rfl
@[simp] theorem State.setAF_r (x : Byte × Flags) : (s.setAF x).r = s.r := rfl
@[simp] theorem State.setAF_iff1 (x : Byte × Flags) : (s.setAF x).iff1 = s.iff1 := rfl
@[simp] theorem State.setAF_iff2 (x : Byte × Flags) : (s.setAF x).iff2 = s.iff2 := rfl
@[simp] theorem State.setAF_im (x : Byte × Flags) : (s.setAF x).im = s.im := rfl
@[simp] theorem State.setAF_halted (x : Byte × Flags) : (s.setAF x).halted = s.halted := rfl
@[simp] theorem State.setAF_intInhibit (x : Byte × Flags) : (s.setAF x).intInhibit = s.intInhibit := rfl
@[simp] theorem State.setAF_mem (x : Byte × Flags) : (s.setAF x).mem = s.mem := rfl
@[simp] theorem State.setAF_nmiReq (x : Byte × Flags) : (s.setAF x).nmiReq = s.nmiReq := rfl
@[simp] theorem State.setAF_intReq (x : Byte × Flags) : (s.setAF x).intReq = s.intReq := rfl
@[simp] theorem State.setAF_busByte (x : Byte × Flags) : (s.setAF x).busByte = s.busByte := rfl
@[simp] theorem State.setAF_inputs (x : Byte × Flags) : (s.setAF x).inputs = s.inputs := rfl
@[simp] theorem State.setAF_cycles (x : Byte × Flags) : (s.setAF x).cycles = s.cycles := rfl
@[simp] theorem State.setAF_events (x : Byte × Flags) : (s.setAF x).events = s.events := rfl
@[simp] theorem State.setAF_draw (x : Byte × Flags) : (s.setAF x).draw = s.draw := rfl
@[simp] theorem State.setAF_params (x : Byte × Flags) : (s.setAF x).params = s.params := rfl

@[simp] theorem State.setPc_main (v : Word) : (s.setPc v).main = s.main := rfl
@[simp] theorem State.setPc_alt (v : Word) : (s.setPc v).alt = s.alt := rfl
@[simp] theorem State.setPc_ix (v : Word) : (s.setPc v).ix = s.ix := rfl
@[simp] theorem State.setPc_iy (v : Word) : (s.setPc v).iy = s.iy := rfl
@[simp] theorem State.setPc_sp (v : Word) : (s.setPc v).sp = s.sp := rfl
@[simp] theorem State.setPc_pc (v : Word) : (s.setPc v).pc = v := rfl
@[simp] theorem State.setPc_i (v : Word) : (s.setPc v).i = s.i := rfl
@[simp] theorem State.setPc_r (v : Word) : (s.setPc v).r = s.r := rfl
@[simp] theorem State.setPc_iff1 (v : Word) : (s.setPc v).iff1 = s.iff1 := rfl
@[simp] theorem State.setPc_iff2 (v : Word) : (s.setPc v).iff2 = s.iff2 := rfl
@[simp] theorem State.setPc_im (v : Word) : (s.setPc v).im = s.im := rfl
@[simp] theorem State.setPc_halted (v : Word) : (s.setPc v).halted = s.halted := rfl
@[simp] theorem State.setPc_intInhibit (v : Word) : (s.setPc v).intInhibit = s.intInhibit := rfl
@[simp] theorem State.setPc_mem (v : Word) : (s.setPc v).mem = s.mem := rfl
@[simp] theorem State.setPc_nmiReq (v : Word) : (s.setPc v).nmiReq = s.nmiReq := rfl
@[simp] theorem State.setPc_intReq (v : Word) : (s.setPc v).intReq = s.intReq := rfl
@[simp] theorem State.setPc_busByte (v : Word) : (s.setPc v).busByte = s.busByte := rfl
@[simp] theorem State.setPc_inputs (v : Word) : (s.setPc v).inputs = s.inputs := rfl
@[simp] theorem State.setPc_cycles (v : Word) : (s.setPc v).cycles = s.cycles := rfl
@[simp] theorem State.setPc_events (v : Word) : (s.setPc v).events = s.events := rfl
@[simp] theorem State.setPc_draw (v : Word) : (s.setPc v).draw = s.draw := rfl
@[simp] theorem State.setPc_params (v : Word) : (s.setPc v).params = s.params := rfl

@[simp] theorem State.incR_main (k : Nat) : (s.incR k).main = s.main := rfl
@[simp] theorem State.incR_alt (k : Nat) : (s.incR k).alt = s.alt := rfl
@[simp] theorem State.incR_ix (k : Nat) : (s.incR k).ix = s.ix := rfl
@[simp] theorem State.incR_iy (k : Nat) : (s.incR k).iy = s.iy := rfl
@[simp] theorem State.incR_sp (k : Nat) : (s.incR k).sp = s.sp := rfl
@[simp] theorem State.incR_pc (k : Nat) : (s.incR k).pc = s.pc := rfl
@[simp] theorem State.incR_i (k : Nat) : (s.incR k).i = s.i := rfl
@[simp] theorem State.incR_r (k : Nat) : (s.incR k).r = refreshAdd s.r k := rfl
@[simp] theorem State.incR_iff1 (k : Nat) : (s.incR k).iff1 = s.iff1 := rfl
@[simp] theorem State.incR_iff2 (k : Nat) : (s.incR k).iff2 = s.iff2 := rfl
@[simp] theorem State.incR_im (k : Nat) : (s.incR k).im = s.im := rfl
@[simp] theorem State.incR_halted (k : Nat) : (s.incR k).halted = s.halted := rfl
@[simp] theorem State.incR_intInhibit (k : Nat) : (s.incR k).intInhibit = s.intInhibit := rfl
@[simp] theorem State.incR_mem (k : Nat) : (s.incR k).mem = s.mem := rfl
@[simp] theorem State.incR_nmiReq (k : Nat) : (s.incR k).nmiReq = s.nmiReq := rfl
@[simp] theorem State.incR_intReq (k : Nat) : (s.incR k).intReq = s.intReq := rfl
@[simp] theorem State.incR_busByte (k : Nat) : (s.incR k).busByte = s.busByte := rfl
@[simp] theorem State.incR_inputs (k : Nat) : (s.incR k).inputs = s.inputs := rfl
@[simp] theorem State.incR_cycles (k : Nat) : (s.incR k).cycles = s.cycles := rfl
@[simp] theorem State.incR_events (k : Nat) : (s.incR k).events = s.events := rfl
@[simp] theorem State.incR_draw (k : Nat) : (s.incR k).draw = s.draw := rfl
@[simp] theorem State.incR_params (k : Nat) : (s.incR k).params = s.params := rfl

@[simp] theorem State.dropWord_main : (s.dropWord).main = s.main := rfl
@[simp] theorem State.dropWord_alt : (s.dropWord).alt = s.alt := rfl
@[simp] theorem State.dropWord_ix : (s.dropWord).ix = s.ix := rfl
@[simp] theorem State.dropWord_iy : (s.dropWord).iy = s.iy := rfl
@[simp] theorem State.dropWord_sp : (s.dropWord).sp = s.sp + 2 := rfl
@[simp] theorem State.dropWord_pc : (s.dropWord).pc = s.pc := rfl
@[simp] theorem State.dropWord_i : (s.dropWord).i = s.i := rfl
@[simp] theorem State.dropWord_r : (s.dropWord).r = s.r := rfl
@[simp] theorem State.dropWord_iff1 : (s.dropWord).iff1 = s.iff1 := rfl
@[simp] theorem State.dropWord_iff2 : (s.dropWord).iff2 = s.iff2 := rfl
@[simp] theorem State.dropWord_im : (s.dropWord).im = s.im := rfl
@[simp] theorem State.dropWord_halted : (s.dropWord).halted = s.halted := rfl
@[simp] theorem State.dropWord_intInhibit : (s.dropWord).intInhibit = s.intInhibit := rfl
@[simp] theorem State.dropWord_mem : (s.dropWord).mem = s.mem := rfl
@[simp] theorem State.dropWord_nmiReq : (s.dropWord).nmiReq = s.nmiReq := rfl
@[simp] theorem State.dropWord_intReq : (s.dropWord).intReq = s.intReq := rfl
@[simp] theorem State.dropWord_busByte : (s.dropWord).busByte = s.busByte := rfl
@[simp] theorem State.dropWord_inputs : (s.dropWord).inputs = s.inputs := rfl
@[simp] theorem State.dropWord_cycles : (s.dropWord).cycles = s.cycles := rfl
@[simp] theorem State.dropWord_events : (s.dropWord).events = s.events := rfl
@[simp] theorem State.dropWord_draw : (s.dropWord).draw = s.draw := rfl
@[simp] theorem State.dropWord_params : (s.dropWord).params = s.params := rfl

@[simp] theorem State.clearInhibit_main : (s.clearInhibit).main = s.main := rfl
@[simp] theorem State.clearInhibit_alt : (s.clearInhibit).alt = s.alt := rfl
@[simp] theorem State.clearInhibit_ix : (s.clearInhibit).ix = s.ix := rfl
@[simp] theorem State.clearInhibit_iy : (s.clearInhibit).iy = s.iy := rfl
@[simp] theorem State.clearInhibit_sp : (s.clearInhibit).sp = s.sp := rfl
@[simp] theorem State.clearInhibit_pc : (s.clearInhibit).pc = s.pc := rfl
@[simp] theorem State.clearInhibit_i : (s.clearInhibit).i = s.i := rfl
@[simp] theorem State.clearInhibit_r : (s.clearInhibit).r = s.r := rfl
@[simp] theorem State.clearInhibit_iff1 : (s.clearInhibit).iff1 = s.iff1 := rfl
@[simp] theorem State.clearInhibit_iff2 : (s.clearInhibit).iff2 = s.iff2 := rfl
@[simp] theorem State.clearInhibit_im : (s.clearInhibit).im = s.im := rfl
@[simp] theorem State.clearInhibit_halted : (s.clearInhibit).halted = s.halted := rfl
@[simp] theorem State.clearInhibit_intInhibit : (s.clearInhibit).intInhibit = .none := rfl
@[simp] theorem State.clearInhibit_mem : (s.clearInhibit).mem = s.mem := rfl
@[simp] theorem State.clearInhibit_nmiReq : (s.clearInhibit).nmiReq = s.nmiReq := rfl
@[simp] theorem State.clearInhibit_intReq : (s.clearInhibit).intReq = s.intReq := rfl
@[simp] theorem State.clearInhibit_busByte : (s.clearInhibit).busByte = s.busByte := rfl
@[simp] theorem State.clearInhibit_inputs : (s.clearInhibit).inputs = s.inputs := rfl
@[simp] theorem State.clearInhibit_cycles : (s.clearInhibit).cycles = s.cycles := rfl
@[simp] theorem State.clearInhibit_events : (s.clearInhibit).events = s.events := rfl
@[simp] theorem State.clearInhibit_draw : (s.clearInhibit).draw = s.draw := rfl
@[simp] theorem State.clearInhibit_params : (s.clearInhibit).params = s.params := rfl

@[simp] theorem State.setIdx_main (x : Idx) (v : Word) : (s.setIdx x v).main = s.main := by cases x <;> rfl
@[simp] theorem State.setIdx_alt (x : Idx) (v : Word) : (s.setIdx x v).alt = s.alt := by cases x <;> rfl
@[simp] theorem State.setIdx_sp (x : Idx) (v : Word) : (s.setIdx x v).sp = s.sp := by cases x <;> rfl
@[simp] theorem State.setIdx_pc (x : Idx) (v : Word) : (s.setIdx x v).pc = s.pc := by cases x <;> rfl
@[simp] theorem State.setIdx_i (x : Idx) (v : Word) : (s.setIdx x v).i = s.i := by cases x <;> rfl
@[simp] theorem State.setIdx_r (x : Idx) (v : Word) : (s.setIdx x v).r = s.r := by cases x <;> rfl
@[simp] theorem State.setIdx_iff1 (x : Idx) (v : Word) : (s.setIdx x v).iff1 = s.iff1 := by cases x <;> rfl
@[simp] theorem State.setIdx_iff2 (x : Idx) (v : Word) : (s.setIdx x v).iff2 = s.iff2 := by cases x <;> rfl
@[simp] theorem State.setIdx_im (x : Idx) (v : Word) : (s.setIdx x v).im = s.im := by cases x <;> rfl
@[simp] theorem State.setIdx_halted (x : Idx) (v : Word) : (s.setIdx x v).halted = s.halted := by cases x <;> rfl
@[simp] theorem State.setIdx_intInhibit (x : Idx) (v : Word) : (s.setIdx x v).intInhibit = s.intInhibit := by cases x <;> rfl
@[simp] theorem State.setIdx_mem (x : Idx) (v : Word) : (s.setIdx x v).mem = s.mem := by cases x <;> rfl
@[simp] theorem State.setIdx_nmiReq (x : Idx) (v : Word) : (s.setIdx x v).nmiReq = s.nmiReq := by cases x <;> rfl
@[simp] theorem State.setIdx_intReq (x : Idx) (v : Word) : (s.setIdx x v).intReq = s.intReq := by cases x <;> rfl
@[simp] theorem State.setIdx_busByte (x : Idx) (v : Word) : (s.setIdx x v).busByte = s.busByte := by cases x <;> rfl
@[simp] theorem State.setIdx_inputs (x : Idx) (v : Word) : (s.setIdx x v).inputs = s.inputs := by cases x <;> rfl
@[simp] theorem State.setIdx_cycles (x : Idx) (v : Word) : (s.setIdx x v).cycles = s.cycles := by cases x <;> rfl
@[simp] theorem State.setIdx_events (x : Idx) (v : Word) : (s.setIdx x v).events = s.events := by cases x <;> rfl
@[simp] theorem State.setIdx_draw (x : Idx) (v : Word) : (s.setIdx x v).draw = s.draw := by cases x <;> rfl
@[simp] theorem State.setIdx_params (x : Idx) (v : Word) : (s.setIdx x v).params = s.params := by cases x <;> rfl

@[simp] theorem State.setIdx_ix_ix (v : Word) : (s.setIdx .ix v).ix = v := rfl
@[simp] theorem State.setIdx_ix_iy (v : Word) : (s.setIdx .ix v).iy = s.iy := rfl
@[simp] theorem State.setIdx_iy_ix (v : Word) : (s.setIdx .iy v).ix = s.ix := rfl
@[simp] theorem State.setIdx_iy_iy (v : Word) : (s.setIdx .iy v).iy = v := rfl

/-! ## Memory and the stack -/

@[simp] theorem State.memWrite_main (a : Word) (v : Byte) : (s.memWrite a v).main = s.main := by unfold State.memWrite; split <;> rfl
@[simp] theorem State.memWrite_alt (a : Word) (v : Byte) : (s.memWrite a v).alt = s.alt := by unfold State.memWrite; split <;> rfl
@[simp] theorem State.memWrite_ix (a : Word) (v : Byte) : (s.memWrite a v).ix = s.ix := by unfold State.memWrite; split <;> rfl
@[simp] theorem State.memWrite_iy (a : Word) (v : Byte) : (s.memWrite a v).iy = s.iy := by unfold State.memWrite; split <;> rfl
@[simp] theorem State.memWrite_sp (a : Word) (v : Byte) : (s.memWrite a v).sp = s.sp := by unfold State.memWrite; split <;> rfl
@[simp] theorem State.memWrite_pc (a : Word) (v : Byte) : (s.memWrite a v).pc = s.pc := by unfold State.memWrite; split <;> rfl
@[simp] theorem State.memWrite_i (a : Word) (v : Byte) : (s.memWrite a v).i = s.i := by unfold State.memWrite; split <;> rfl
@[simp] theorem State.memWrite_r (a : Word) (v : Byte) : (s.memWrite a v).r = s.r := by unfold State.memWrite; split <;> rfl
@[simp] theorem State.memWrite_iff1 (a : Word) (v : Byte) : (s.memWrite a v).iff1 = s.iff1 := by unfold State.memWrite; split <;> rfl
@[simp] theorem State.memWrite_iff2 (a : Word) (v : Byte) : (s.memWrite a v).iff2 = s.iff2 := by unfold State.memWrite; split <;> rfl
@[simp] theorem State.memWrite_im (a : Word) (v : Byte) : (s.memWrite a v).im = s.im := by unfold State.memWrite; split <;> rfl
@[simp] theorem State.memWrite_halted (a : Word) (v : Byte) : (s.memWrite a v).halted = s.halted := by unfold State.memWrite; split <;> rfl
@[simp] theorem State.memWrite_intInhibit (a : Word) (v : Byte) : (s.memWrite a v).intInhibit = s.intInhibit := by unfold State.memWrite; split <;> rfl
@[simp] theorem State.memWrite_mem (a : Word) (v : Byte) : (s.memWrite a v).mem = if s.isRam a then Memory.write s.mem a.toNat v else s.mem := by unfold State.memWrite; split <;> rfl
@[simp] theorem State.memWrite_nmiReq (a : Word) (v : Byte) : (s.memWrite a v).nmiReq = s.nmiReq := by unfold State.memWrite; split <;> rfl
@[simp] theorem State.memWrite_intReq (a : Word) (v : Byte) : (s.memWrite a v).intReq = s.intReq := by unfold State.memWrite; split <;> rfl
@[simp] theorem State.memWrite_busByte (a : Word) (v : Byte) : (s.memWrite a v).busByte = s.busByte := by unfold State.memWrite; split <;> rfl
@[simp] theorem State.memWrite_inputs (a : Word) (v : Byte) : (s.memWrite a v).inputs = s.inputs := by unfold State.memWrite; split <;> rfl
@[simp] theorem State.memWrite_cycles (a : Word) (v : Byte) : (s.memWrite a v).cycles = s.cycles := by unfold State.memWrite; split <;> rfl
@[simp] theorem State.memWrite_events (a : Word) (v : Byte) : (s.memWrite a v).events = s.events := by unfold State.memWrite; split <;> rfl
@[simp] theorem State.memWrite_draw (a : Word) (v : Byte) : (s.memWrite a v).draw = s.draw := by unfold State.memWrite; split <;> rfl
@[simp] theorem State.memWrite_params (a : Word) (v : Byte) : (s.memWrite a v).params = s.params := by unfold State.memWrite; split <;> rfl

@[simp] theorem State.memWrite16_main (a : Word) (v : Word) : (s.memWrite16 a v).main = s.main := by simp [State.memWrite16]
@[simp] theorem State.memWrite16_alt (a : Word) (v : Word) : (s.memWrite16 a v).alt = s.alt := by simp [State.memWrite16]
@[simp] theorem State.memWrite16_ix (a : Word) (v : Word) : (s.memWrite16 a v).ix = s.ix := by simp [State.memWrite16]
@[simp] theorem State.memWrite16_iy (a : Word) (v : Word) : (s.memWrite16 a v).iy = s.iy := by simp [State.memWrite16]
@[simp] theorem State.memWrite16_sp (a : Word) (v : Word) : (s.memWrite16 a v).sp = s.sp := by simp [State.memWrite16]
@[simp] theorem State.memWrite16_pc (a : Word) (v : Word) : (s.memWrite16 a v).pc = s.pc := by simp [State.memWrite16]
@[simp] theorem State.memWrite16_i (a : Word) (v : Word) : (s.memWrite16 a v).i = s.i := by simp [State.memWrite16]
@[simp] theorem State.memWrite16_r (a : Word) (v : Word) : (s.memWrite16 a v).r = s.r := by simp [State.memWrite16]
@[simp] theorem State.memWrite16_iff1 (a : Word) (v : Word) : (s.memWrite16 a v).iff1 = s.iff1 := by simp [State.memWrite16]
@[simp] theorem State.memWrite16_iff2 (a : Word) (v : Word) : (s.memWrite16 a v).iff2 = s.iff2 := by simp [State.memWrite16]
@[simp] theorem State.memWrite16_im (a : Word) (v : Word) : (s.memWrite16 a v).im = s.im := by simp [State.memWrite16]
@[simp] theorem State.memWrite16_halted (a : Word) (v : Word) : (s.memWrite16 a v).halted = s.halted := by simp [State.memWrite16]
@[simp] theorem State.memWrite16_intInhibit (a : Word) (v : Word) : (s.memWrite16 a v).intInhibit = s.intInhibit := by simp [State.memWrite16]
@[simp] theorem State.memWrite16_nmiReq (a : Word) (v : Word) : (s.memWrite16 a v).nmiReq = s.nmiReq := by simp [State.memWrite16]
@[simp] theorem State.memWrite16_intReq (a : Word) (v : Word) : (s.memWrite16 a v).intReq = s.intReq := by simp [State.memWrite16]
@[simp] theorem State.memWrite16_busByte (a : Word) (v : Word) : (s.memWrite16 a v).busByte = s.busByte := by simp [State.memWrite16]
@[simp] theorem State.memWrite16_inputs (a : Word) (v : Word) : (s.memWrite16 a v).inputs = s.inputs := by simp [State.memWrite16]
@[simp] theorem State.memWrite16_cycles (a : Word) (v : Word) : (s.memWrite16 a v).cycles = s.cycles := by simp [State.memWrite16]
@[simp] theorem State.memWrite16_events (a : Word) (v : Word) : (s.memWrite16 a v).events = s.events := by simp [State.memWrite16]
@[simp] theorem State.memWrite16_draw (a : Word) (v : Word) : (s.memWrite16 a v).draw = s.draw := by simp [State.memWrite16]
@[simp] theorem State.memWrite16_params (a : Word) (v : Word) : (s.memWrite16 a v).params = s.params := by simp [State.memWrite16]

@[simp] theorem State.push16_main (v : Word) : (s.push16 v).main = s.main := by simp [State.push16]
@[simp] theorem State.push16_alt (v : Word) : (s.push16 v).alt = s.alt := by simp [State.push16]
@[simp] theorem State.push16_ix (v : Word) : (s.push16 v).ix = s.ix := by simp [State.push16]
@[simp] theorem State.push16_iy (v : Word) : (s.push16 v).iy = s.iy := by simp [State.push16]
@[simp] theorem State.push16_sp (v : Word) : (s.push16 v).sp = s.sp - 2 := by simp [State.push16]
@[simp] theorem State.push16_pc (v : Word) : (s.push16 v).pc = s.pc := by simp [State.push16]
@[simp] theorem State.push16_i (v : Word) : (s.push16 v).i = s.i := by simp [State.push16]
@[simp] theorem State.push16_r (v : Word) : (s.push16 v).r = s.r := by simp [State.push16]
@[simp] theorem State.push16_iff1 (v : Word) : (s.push16 v).iff1 = s.iff1 := by simp [State.push16]
@[simp] theorem State.push16_iff2 (v : Word) : (s.push16 v).iff2 = s.iff2 := by simp [State.push16]
@[simp] theorem State.push16_im (v : Word) : (s.push16 v).im = s.im := by simp [State.push16]
@[simp] theorem State.push16_halted (v : Word) : (s.push16 v).halted = s.halted := by simp [State.push16]
@[simp] theorem State.push16_intInhibit (v : Word) : (s.push16 v).intInhibit = s.intInhibit := by simp [State.push16]
@[simp] theorem State.push16_mem (v : Word) : (s.push16 v).mem = ((s.memWrite (s.sp - 1) (hiByte v)).memWrite (s.sp - 2) (loByte v)).mem := by simp [State.push16]
@[simp] theorem State.push16_nmiReq (v : Word) : (s.push16 v).nmiReq = s.nmiReq := by simp [State.push16]
@[simp] theorem State.push16_intReq (v : Word) : (s.push16 v).intReq = s.intReq := by simp [State.push16]
@[simp] theorem State.push16_busByte (v : Word) : (s.push16 v).busByte = s.busByte := by simp [State.push16]
@[simp] theorem State.push16_inputs (v : Word) : (s.push16 v).inputs = s.inputs := by simp [State.push16]
@[simp] theorem State.push16_cycles (v : Word) : (s.push16 v).cycles = s.cycles := by simp [State.push16]
@[simp] theorem State.push16_events (v : Word) : (s.push16 v).events = s.events := by simp [State.push16]
@[simp] theorem State.push16_draw (v : Word) : (s.push16 v).draw = s.draw := by simp [State.push16]
@[simp] theorem State.push16_params (v : Word) : (s.push16 v).params = s.params := by simp [State.push16]

/-! ## Operands -/

@[simp] theorem State.set16_alt (q : Reg16) (v : Word) : (s.set16 q v).alt = s.alt := by cases q <;> rfl
@[simp] theorem State.set16_pc (q : Reg16) (v : Word) : (s.set16 q v).pc = s.pc := by cases q <;> rfl
@[simp] theorem State.set16_i (q : Reg16) (v : Word) : (s.set16 q v).i = s.i := by cases q <;> rfl
@[simp] theorem State.set16_r (q : Reg16) (v : Word) : (s.set16 q v).r = s.r := by cases q <;> rfl
@[simp] theorem State.set16_iff1 (q : Reg16) (v : Word) : (s.set16 q v).iff1 = s.iff1 := by cases q <;> rfl
@[simp] theorem State.set16_iff2 (q : Reg16) (v : Word) : (s.set16 q v).iff2 = s.iff2 := by cases q <;> rfl
@[simp] theorem State.set16_im (q : Reg16) (v : Word) : (s.set16 q v).im = s.im := by cases q <;> rfl
@[simp] theorem State.set16_halted (q : Reg16) (v : Word) : (s.set16 q v).halted = s.halted := by cases q <;> rfl
@[simp] theorem State.set16_intInhibit (q : Reg16) (v : Word) : (s.set16 q v).intInhibit = s.intInhibit := by cases q <;> rfl
@[simp] theorem State.set16_mem (q : Reg16) (v : Word) : (s.set16 q v).mem = s.mem := by cases q <;> rfl
@[simp] theorem State.set16_nmiReq (q : Reg16) (v : Word) : (s.set16 q v).nmiReq = s.nmiReq := by cases q <;> rfl
@[simp] theorem State.set16_intReq (q : Reg16) (v : Word) : (s.set16 q v).intReq = s.intReq := by cases q <;> rfl
@[simp] theorem State.set16_busByte (q : Reg16) (v : Word) : (s.set16 q v).busByte = s.busByte := by cases q <;> rfl
@[simp] theorem State.set16_inputs (q : Reg16) (v : Word) : (s.set16 q v).inputs = s.inputs := by cases q <;> rfl
@[simp] theorem State.set16_cycles (q : Reg16) (v : Word) : (s.set16 q v).cycles = s.cycles := by cases q <;> rfl
@[simp] theorem State.set16_events (q : Reg16) (v : Word) : (s.set16 q v).events = s.events := by cases q <;> rfl
@[simp] theorem State.set16_draw (q : Reg16) (v : Word) : (s.set16 q v).draw = s.draw := by cases q <;> rfl
@[simp] theorem State.set16_params (q : Reg16) (v : Word) : (s.set16 q v).params = s.params := by cases q <;> rfl

@[simp] theorem State.set8_alt (l : Loc8) (v : Byte) : (s.set8 l v).alt = s.alt := by rcases l with _ | _ | ⟨_ | _, _ | _⟩ <;> simp [State.set8]
@[simp] theorem State.set8_sp (l : Loc8) (v : Byte) : (s.set8 l v).sp = s.sp := by rcases l with _ | _ | ⟨_ | _, _ | _⟩ <;> simp [State.set8]
@[simp] theorem State.set8_pc (l : Loc8) (v : Byte) : (s.set8 l v).pc = s.pc := by rcases l with _ | _ | ⟨_ | _, _ | _⟩ <;> simp [State.set8]
@[simp] theorem State.set8_i (l : Loc8) (v : Byte) : (s.set8 l v).i = s.i := by rcases l with _ | _ | ⟨_ | _, _ | _⟩ <;> simp [State.set8]
@[simp] theorem State.set8_r (l : Loc8) (v : Byte) : (s.set8 l v).r = s.r := by rcases l with _ | _ | ⟨_ | _, _ | _⟩ <;> simp [State.set8]
@[simp] theorem State.set8_iff1 (l : Loc8) (v : Byte) : (s.set8 l v).iff1 = s.iff1 := by rcases l with _ | _ | ⟨_ | _, _ | _⟩ <;> simp [State.set8]
@[simp] theorem State.set8_iff2 (l : Loc8) (v : Byte) : (s.set8 l v).iff2 = s.iff2 := by rcases l with _ | _ | ⟨_ | _, _ | _⟩ <;> simp [State.set8]
@[simp] theorem State.set8_im (l : Loc8) (v : Byte) : (s.set8 l v).im = s.im := by rcases l with _ | _ | ⟨_ | _, _ | _⟩ <;> simp [State.set8]
@[simp] theorem State.set8_halted (l : Loc8) (v : Byte) : (s.set8 l v).halted = s.halted := by rcases l with _ | _ | ⟨_ | _, _ | _⟩ <;> simp [State.set8]
@[simp] theorem State.set8_intInhibit (l : Loc8) (v : Byte) : (s.set8 l v).intInhibit = s.intInhibit := by rcases l with _ | _ | ⟨_ | _, _ | _⟩ <;> simp [State.set8]
@[simp] theorem State.set8_nmiReq (l : Loc8) (v : Byte) : (s.set8 l v).nmiReq = s.nmiReq := by rcases l with _ | _ | ⟨_ | _, _ | _⟩ <;> simp [State.set8]
@[simp] theorem State.set8_intReq (l : Loc8) (v : Byte) : (s.set8 l v).intReq = s.intReq := by rcases l with _ | _ | ⟨_ | _, _ | _⟩ <;> simp [State.set8]
@[simp] theorem State.set8_busByte (l : Loc8) (v : Byte) : (s.set8 l v).busByte = s.busByte := by rcases l with _ | _ | ⟨_ | _, _ | _⟩ <;> simp [State.set8]
@[simp] theorem State.set8_inputs (l : Loc8) (v : Byte) : (s.set8 l v).inputs = s.inputs := by rcases l with _ | _ | ⟨_ | _, _ | _⟩ <;> simp [State.set8]
@[simp] theorem State.set8_cycles (l : Loc8) (v : Byte) : (s.set8 l v).cycles = s.cycles := by rcases l with _ | _ | ⟨_ | _, _ | _⟩ <;> simp [State.set8]
@[simp] theorem State.set8_events (l : Loc8) (v : Byte) : (s.set8 l v).events = s.events := by rcases l with _ | _ | ⟨_ | _, _ | _⟩ <;> simp [State.set8]
@[simp] theorem State.set8_draw (l : Loc8) (v : Byte) : (s.set8 l v).draw = s.draw := by rcases l with _ | _ | ⟨_ | _, _ | _⟩ <;> simp [State.set8]
@[simp] theorem State.set8_params (l : Loc8) (v : Byte) : (s.set8 l v).params = s.params := by rcases l with _ | _ | ⟨_ | _, _ | _⟩ <;> simp [State.set8]

/-! ## Block instructions -/

@[simp] theorem blockMove_main (d : Dir) : (blockMove d s).main = { ((s.main.setHl (d.step s.main.hl)).setDe (d.step s.main.de)).setBc (s.main.bc - 1) with f := (blockMoveFlags (s.memRead .data0 s.main.hl) s.main.a (s.main.bc - 1) s.flags).toByte } := by simp [blockMove]
@[simp] theorem blockMove_alt (d : Dir) : (blockMove d s).alt = s.alt := by simp [blockMove]
@[simp] theorem blockMove_ix (d : Dir) : (blockMove d s).ix = s.ix := by simp [blockMove]
@[simp] theorem blockMove_iy (d : Dir) : (blockMove d s).iy = s.iy := by simp [blockMove]
@[simp] theorem blockMove_sp (d : Dir) : (blockMove d s).sp = s.sp := by simp [blockMove]
@[simp] theorem blockMove_pc (d : Dir) : (blockMove d s).pc = s.pc := by simp [blockMove]
@[simp] theorem blockMove_i (d : Dir) : (blockMove d s).i = s.i := by simp [blockMove]
@[simp] theorem blockMove_r (d : Dir) : (blockMove d s).r = s.r := by simp [blockMove]
@[simp] theorem blockMove_iff1 (d : Dir) : (blockMove d s).iff1 = s.iff1 := by simp [blockMove]
@[simp] theorem blockMove_iff2 (d : Dir) : (blockMove d s).iff2 = s.iff2 := by simp [blockMove]
@[simp] theorem blockMove_im (d : Dir) : (blockMove d s).im = s.im := by simp [blockMove]
@[simp] theorem blockMove_halted (d : Dir) : (blockMove d s).halted = s.halted := by simp [blockMove]
@[simp] theorem blockMove_intInhibit (d : Dir) : (blockMove d s).intInhibit = s.intInhibit := by simp [blockMove]
@[simp] theorem blockMove_mem (d : Dir) : (blockMove d s).mem = (s.memWrite s.main.de (s.memRead .data0 s.main.hl)).mem := by simp [blockMove]
@[simp] theorem blockMove_nmiReq (d : Dir) : (blockMove d s).nmiReq = s.nmiReq := by simp [blockMove]
@[simp] theorem blockMove_intReq (d : Dir) : (blockMove d s).intReq = s.intReq := by simp [blockMove]
@[simp] theorem blockMove_busByte (d : Dir) : (blockMove d s).busByte = s.busByte := by simp [blockMove]
@[simp] theorem blockMove_inputs (d : Dir) : (blockMove d s).inputs = s.inputs := by simp [blockMove]
@[simp] theorem blockMove_cycles (d : Dir) : (blockMove d s).cycles = s.cycles := by simp [blockMove]
@[simp] theorem blockMove_events (d : Dir) : (blockMove d s).events = s.events := by simp [blockMove]
@[simp] theorem blockMove_draw (d : Dir) : (blockMove d s).draw = s.draw := by simp [blockMove]
@[simp] theorem blockMove_params (d : Dir) : (blockMove d s).params = s.params := by simp [blockMove]

@[simp] theorem blockSearch_main (d : Dir) : (blockSearch d s).main = { (s.main.setHl (d.step s.main.hl)).setBc (s.main.bc - 1) with f := (blockSearchFlags (s.memRead .data0 s.main.hl) s.main.a (s.main.bc - 1) s.flags).toByte } := by simp [blockSearch]
@[simp] theorem blockSearch_alt (d : Dir) : (blockSearch d s).alt = s.alt := by simp [blockSearch]
@[simp] theorem blockSearch_ix (d : Dir) : (blockSearch d s).ix = s.ix := by simp [blockSearch]
@[simp] theorem blockSearch_iy (d : Dir) : (blockSearch d s).iy = s.iy := by simp [blockSearch]
@[simp] theorem blockSearch_sp (d : Dir) : (blockSearch d s).sp = s.sp := by simp [blockSearch]
@[simp] theorem blockSearch_pc (d : Dir) : (blockSearch d s).pc = s.pc := by simp [blockSearch]
@[simp] theorem blockSearch_i (d : Dir) : (blockSearch d s).i = s.i := by simp [blockSearch]
@[simp] theorem blockSearch_r (d : Dir) : (blockSearch d s).r = s.r := by simp [blockSearch]
@[simp] theorem blockSearch_iff1 (d : Dir) : (blockSearch d s).iff1 = s.iff1 := by simp [blockSearch]
@[simp] theorem blockSearch_iff2 (d : Dir) : (blockSearch d s).iff2 = s.iff2 := by simp [blockSearch]
@[simp] theorem blockSearch_im (d : Dir) : (blockSearch d s).im = s.im := by simp [blockSearch]
@[simp] theorem blockSearch_halted (d : Dir) : (blockSearch d s).halted = s.halted := by simp [blockSearch]
@[simp] theorem blockSearch_intInhibit (d : Dir) : (blockSearch d s).intInhibit = s.intInhibit := by simp [blockSearch]
@[simp] theorem blockSearch_mem (d : Dir) : (blockSearch d s).mem = s.mem := by simp [blockSearch]
@[simp] theorem blockSearch_nmiReq (d : Dir) : (blockSearch d s).nmiReq = s.nmiReq := by simp [blockSearch]
@[simp] theorem blockSearch_intReq (d : Dir) : (blockSearch d s).intReq = s.intReq := by simp [blockSearch]
@[simp] theorem blockSearch_busByte (d : Dir) : (blockSearch d s).busByte = s.busByte := by simp [blockSearch]
@[simp] theorem blockSearch_inputs (d : Dir) : (blockSearch d s).inputs = s.inputs := by simp [blockSearch]
@[simp] theorem blockSearch_cycles (d : Dir) : (blockSearch d s).cycles = s.cycles := by simp [blockSearch]
@[simp] theorem blockSearch_events (d : Dir) : (blockSearch d s).events = s.events := by simp [blockSearch]
@[simp] theorem blockSearch_draw (d : Dir) : (blockSearch d s).draw = s.draw := by simp [blockSearch]
@[simp] theorem blockSearch_params (d : Dir) : (blockSearch d s).params = s.params := by simp [blockSearch]

@[simp] theorem blockIn_main (d : Dir) : (blockIn d s).main = { (s.main.setHl (d.step s.main.hl)).set .b (s.main.b - 1) with f := (blockIoFlags (s.main.b - 1) s.draw).toByte } := by simp [blockIn]
@[simp] theorem blockIn_alt (d : Dir) : (blockIn d s).alt = s.alt := by simp [blockIn]
@[simp] theorem blockIn_ix (d : Dir) : (blockIn d s).ix = s.ix := by simp [blockIn]
@[simp] theorem blockIn_iy (d : Dir) : (blockIn d s).iy = s.iy := by simp [blockIn]
@[simp] theorem blockIn_sp (d : Dir) : (blockIn d s).sp = s.sp := by simp [blockIn]
@[simp] theorem blockIn_pc (d : Dir) : (blockIn d s).pc = s.pc := by simp [blockIn]
@[simp] theorem blockIn_i (d : Dir) : (blockIn d s).i = s.i := by simp [blockIn]
@[simp] theorem blockIn_r (d : Dir) : (blockIn d s).r = s.r := by simp [blockIn]
@[simp] theorem blockIn_iff1 (d : Dir) : (blockIn d s).iff1 = s.iff1 := by simp [blockIn]
@[simp] theorem blockIn_iff2 (d : Dir) : (blockIn d s).iff2 = s.iff2 := by simp [blockIn]
@[simp] theorem blockIn_im (d : Dir) : (blockIn d s).im = s.im := by simp [blockIn]
@[simp] theorem blockIn_halted (d : Dir) : (blockIn d s).halted = s.halted := by simp [blockIn]
@[simp] theorem blockIn_intInhibit (d : Dir) : (blockIn d s).intInhibit = s.intInhibit := by simp [blockIn]
@[simp] theorem blockIn_mem (d : Dir) : (blockIn d s).mem = (s.memWrite s.main.hl (s.portValue s.main.c)).mem := by simp [blockIn, State.isRam]
@[simp] theorem blockIn_nmiReq (d : Dir) : (blockIn d s).nmiReq = s.nmiReq := by simp [blockIn]
@[simp] theorem blockIn_intReq (d : Dir) : (blockIn d s).intReq = s.intReq := by simp [blockIn]
@[simp] theorem blockIn_busByte (d : Dir) : (blockIn d s).busByte = s.busByte := by simp [blockIn]
@[simp] theorem blockIn_inputs (d : Dir) : (blockIn d s).inputs = s.inputs := by simp [blockIn]
@[simp] theorem blockIn_cycles (d : Dir) : (blockIn d s).cycles = s.cycles := by simp [blockIn]
@[simp] theorem blockIn_events (d : Dir) : (blockIn d s).events = .portRead s.main.c (s.portValue s.main.c) :: s.events := by simp [blockIn]
@[simp] theorem blockIn_draw (d : Dir) : (blockIn d s).draw = s.draw := by simp [blockIn]
@[simp] theorem blockIn_params (d : Dir) : (blockIn d s).params = s.params := by simp [blockIn]

@[simp] theorem blockOut_main (d : Dir) : (blockOut d s).main = { (s.main.setHl (d.step s.main.hl)).set .b (s.main.b - 1) with f := (blockIoFlags (s.main.b - 1) s.draw).toByte } := by simp [blockOut]
@[simp] theorem blockOut_alt (d : Dir) : (blockOut d s).alt = s.alt := by simp [blockOut]
@[simp] theorem blockOut_ix (d : Dir) : (blockOut d s).ix = s.ix := by simp [blockOut]
@[simp] theorem blockOut_iy (d : Dir) : (blockOut d s).iy = s.iy := by simp [blockOut]
@[simp] theorem blockOut_sp (d : Dir) : (blockOut d s).sp = s.sp := by simp [blockOut]
@[simp] theorem blockOut_pc (d : Dir) : (blockOut d s).pc = s.pc := by simp [blockOut]
@[simp] theorem blockOut_i (d : Dir) : (blockOut d s).i = s.i := by simp [blockOut]
@[simp] theorem blockOut_r (d : Dir) : (blockOut d s).r = s.r := by simp [blockOut]
@[simp] theorem blockOut_iff1 (d : Dir) : (blockOut d s).iff1 = s.iff1 := by simp [blockOut]
@[simp] theorem blockOut_iff2 (d : Dir) : (blockOut d s).iff2 = s.iff2 := by simp [blockOut]
@[simp] theorem blockOut_im (d : Dir) : (blockOut d s).im = s.im := by simp [blockOut]
@[simp] theorem blockOut_halted (d : Dir) : (blockOut d s).halted = s.halted := by simp [blockOut]
@[simp] theorem blockOut_intInhibit (d : Dir) : (blockOut d s).intInhibit = s.intInhibit := by simp [blockOut]
@[simp] theorem blockOut_mem (d : Dir) : (blockOut d s).mem = s.mem := by simp [blockOut]
@[simp] theorem blockOut_nmiReq (d : Dir) : (blockOut d s).nmiReq = s.nmiReq := by simp [blockOut]
@[simp] theorem blockOut_intReq (d : Dir) : (blockOut d s).intReq = s.intReq := by simp [blockOut]
@[simp] theorem blockOut_busByte (d : Dir) : (blockOut d s).busByte = s.busByte := by simp [blockOut]
@[simp] theorem blockOut_inputs (d : Dir) : (blockOut d s).inputs = s.inputs := by simp [blockOut]
@[simp] theorem blockOut_cycles (d : Dir) : (blockOut d s).cycles = s.cycles := by simp [blockOut]
@[simp] theorem blockOut_events (d : Dir) : (blockOut d s).events = .portWrite s.main.c (s.memRead .data0 s.main.hl) :: s.events := by simp [blockOut]
@[simp] theorem blockOut_draw (d : Dir) : (blockOut d s).draw = s.draw := by simp [blockOut]
@[simp] theorem blockOut_params (d : Dir) : (blockOut d s).params = s.params := by simp [blockOut]

/-! ## A step -/

@[simp] theorem fetched_main (j : Instr) : (fetched j s).main = s.main := rfl
@[simp] theorem fetched_alt (j : Instr) : (fetched j s).alt = s.alt := rfl
@[simp] theorem fetched_ix (j : Instr) : (fetched j s).ix = s.ix := rfl
@[simp] theorem fetched_iy (j : Instr) : (fetched j s).iy = s.iy := rfl
@[simp] theorem fetched_sp (j : Instr) : (fetched j s).sp = s.sp := rfl
@[simp] theorem fetched_pc (j : Instr) : (fetched j s).pc = s.pc + BitVec.ofNat 16 j.fetchCount := rfl
@[simp] theorem fetched_i (j : Instr) : (fetched j s).i = s.i := rfl
@[simp] theorem fetched_r (j : Instr) : (fetched j s).r = refreshAdd s.r j.refreshCount := rfl
@[simp] theorem fetched_iff1 (j : Instr) : (fetched j s).iff1 = s.iff1 := rfl
@[simp] theorem fetched_iff2 (j : Instr) : (fetched j s).iff2 = s.iff2 := rfl
@[simp] theorem fetched_im (j : Instr) : (fetched j s).im = s.im := rfl
@[simp] theorem fetched_halted (j : Instr) : (fetched j s).halted = s.halted := rfl
@[simp] theorem fetched_intInhibit (j : Instr) : (fetched j s).intInhibit = s.intInhibit := rfl
@[simp] theorem fetched_mem (j : Instr) : (fetched j s).mem = s.mem := rfl
@[simp] theorem fetched_nmiReq (j : Instr) : (fetched j s).nmiReq = s.nmiReq := rfl
@[simp] theorem fetched_intReq (j : Instr) : (fetched j s).intReq = s.intReq := rfl
@[simp] theorem fetched_busByte (j : Instr) : (fetched j s).busByte = s.busByte := rfl
@[simp] theorem fetched_inputs (j : Instr) : (fetched j s).inputs = s.inputs := rfl
@[simp] theorem fetched_cycles (j : Instr) : (fetched j s).cycles = s.cycles := rfl
@[simp] theorem fetched_events (j : Instr) : (fetched j s).events = s.events := rfl
@[simp] theorem fetched_draw (j : Instr) : (fetched j s).draw = s.draw := rfl
@[simp] theorem fetched_params (j : Instr) : (fetched j s).params = s.params := rfl

end Sys2Proof.Machine
end

