-- ==== Sys2Proof/Laws/Memory.lean ====
section
/-! SUPPORT. What reading and writing memory do, said once: the laws of the canonical list, then of the state's accesses. -/

namespace Sys2Proof.Machine

/-! ## The canonical list -/

theorem Memory.wfFrom_mono {lo lo' : Nat} (h : lo ≤ lo') {m : Memory} (w : Memory.wfFrom lo' m = true) :
    Memory.wfFrom lo m = true := by
  cases m with
  | nil => rfl
  | cons x m =>
    obtain ⟨k, v⟩ := x
    simp only [Memory.wfFrom, Bool.and_eq_true, decide_eq_true_eq] at w ⊢
    exact ⟨⟨⟨by omega, w.1.1.2⟩, w.1.2⟩, w.2⟩

/-- An address below all that a canonical memory may list is not listed. -/
theorem Memory.read_below {lo : Nat} {m : Memory} (w : Memory.wfFrom lo m = true) {a : Nat} (h : a < lo) :
    Memory.read m a = unlistedByte := by
  induction m generalizing lo with
  | nil => rfl
  | cons x m ih =>
    obtain ⟨k, v⟩ := x
    simp only [Memory.wfFrom, Bool.and_eq_true, decide_eq_true_eq] at w
    rw [Memory.read, if_neg (by omega)]
    exact ih w.2 (by omega)

theorem Memory.write_wfFrom {lo : Nat} {m : Memory} (w : Memory.wfFrom lo m = true) {a : Nat} (ha : a < 0x10000) (hlo : lo ≤ a)
    (v : Byte) : Memory.wfFrom lo (Memory.write m a v) = true := by
  induction m generalizing lo with
  | nil =>
    simp only [Memory.write]
    split
    · rfl
    · simp_all [Memory.wfFrom]
  | cons x m ih =>
    obtain ⟨k, u⟩ := x
    have w0 := w
    simp only [Memory.wfFrom, Bool.and_eq_true, decide_eq_true_eq] at w
    obtain ⟨⟨⟨h1, h2⟩, h3⟩, h4⟩ := w
    simp only [Memory.write]
    split
    · split
      · exact w0
      · simp only [Memory.wfFrom, Bool.and_eq_true, decide_eq_true_eq]
        exact ⟨⟨⟨hlo, ha⟩, by assumption⟩, ⟨⟨by omega, h2⟩, h3⟩, h4⟩
    · split
      · split
        · exact Memory.wfFrom_mono (by omega) h4
        · simp only [Memory.wfFrom, Bool.and_eq_true, decide_eq_true_eq]
          exact ⟨⟨⟨hlo, ha⟩, by assumption⟩, Memory.wfFrom_mono (by omega) h4⟩
      · simp only [Memory.wfFrom, Bool.and_eq_true, decide_eq_true_eq]
        exact ⟨⟨⟨h1, h2⟩, h3⟩, ih h4 (by omega)⟩

/-- A write keeps the canonical form. -/
theorem Memory.write_wf {m : Memory} (w : Memory.wf m = true) (a : Word) (v : Byte) :
    Memory.wf (Memory.write m a.toNat v) = true :=
  Memory.write_wfFrom w a.isLt (Nat.zero_le _) v

/-- Memory after reset is in the canonical form. -/
theorem State.reset_mem_wf : State.reset.mem.wf = true := rfl

theorem Memory.read_write_self_from {lo : Nat} {m : Memory} (w : Memory.wfFrom lo m = true) (a : Nat) (v : Byte) :
    Memory.read (Memory.write m a v) a = v := by
  induction m generalizing lo with
  | nil =>
    simp only [Memory.write]
    split <;> simp_all [Memory.read]
  | cons x m ih =>
    obtain ⟨k, u⟩ := x
    simp only [Memory.wfFrom, Bool.and_eq_true, decide_eq_true_eq] at w
    simp only [Memory.write]
    split
    · split
      · next h hv => rw [Memory.read, if_neg (by omega), Memory.read_below w.2 (by omega), hv]
      · simp [Memory.read]
    · split
      · split
        · next h hv => rw [Memory.read_below w.2 (by omega), hv]
        · simp [Memory.read]
      · rw [Memory.read, if_neg (by assumption)]
        exact ih w.2

/-- A read of the address written gives the byte written. -/
theorem Memory.read_write_self {m : Memory} (w : Memory.wf m = true) (a : Nat) (v : Byte) :
    Memory.read (Memory.write m a v) a = v :=
  Memory.read_write_self_from w a v

/-- A write leaves every other address alone, canonical or not. -/
theorem Memory.read_write_other (m : Memory) {a b : Nat} (h : b ≠ a) (v : Byte) :
    Memory.read (Memory.write m a v) b = Memory.read m b := by
  induction m with
  | nil =>
    simp only [Memory.write]
    split <;> simp [Memory.read, h]
  | cons x m ih =>
    obtain ⟨k, u⟩ := x
    simp only [Memory.write]
    split
    · split <;> simp [Memory.read, h]
    · split
      · next hk =>
        subst hk
        split <;> simp [Memory.read, h]
      · simp [Memory.read, ih]

/-! ## The state's accesses -/

variable (s : State)

/-- Which addresses are RAM depends on the parameters alone. -/
theorem State.isRam_congr {s t : State} (h : t.params = s.params) (a : Word) : t.isRam a = s.isRam a := by
  simp [State.isRam, h]

/-- A read depends on memory, the parameters and the draw alone. -/
theorem State.memRead_congr {s t : State} (hm : t.mem = s.mem) (hp : t.params = s.params) (hd : t.draw = s.draw)
    (acc : Config.Access) (a : Word) : t.memRead acc a = s.memRead acc a := by
  simp [State.memRead, State.isRam_congr hp, hm, hd]

/-! Updates that touch no memory, no parameter and no draw leave every read as it was. -/

@[simp] theorem State.emit_isRam (e : Event) (w : Word) : (s.emit e).isRam w = s.isRam w := rfl
@[simp] theorem State.emit_memRead (e : Event) (acc : Config.Access) (w : Word) : (s.emit e).memRead acc w = s.memRead acc w := rfl
@[simp] theorem State.notifyPlain_isRam (w : Word) : (s.notifyPlain).isRam w = s.isRam w := rfl
@[simp] theorem State.notifyPlain_memRead (acc : Config.Access) (w : Word) : (s.notifyPlain).memRead acc w = s.memRead acc w := rfl
@[simp] theorem State.notifyReturn_isRam (b : Bool) (w : Word) : (s.notifyReturn b).isRam w = s.isRam w := rfl
@[simp] theorem State.notifyReturn_memRead (b : Bool) (acc : Config.Access) (w : Word) : (s.notifyReturn b).memRead acc w = s.memRead acc w := rfl
@[simp] theorem State.notifyHalt_isRam (w : Word) : (s.notifyHalt).isRam w = s.isRam w := rfl
@[simp] theorem State.notifyHalt_memRead (acc : Config.Access) (w : Word) : (s.notifyHalt).memRead acc w = s.memRead acc w := rfl
@[simp] theorem State.notifyLdSp_isRam (b : Bool) (w : Word) : (s.notifyLdSp b).isRam w = s.isRam w := rfl
@[simp] theorem State.notifyLdSp_memRead (b : Bool) (acc : Config.Access) (w : Word) : (s.notifyLdSp b).memRead acc w = s.memRead acc w := rfl
@[simp] theorem State.notifyEiDi_isRam (w : Word) : (s.notifyEiDi).isRam w = s.isRam w := rfl
@[simp] theorem State.notifyEiDi_memRead (acc : Config.Access) (w : Word) : (s.notifyEiDi).memRead acc w = s.memRead acc w := rfl
@[simp] theorem State.portRead_isRam (p : Byte) (w : Word) : (s.portRead p).isRam w = s.isRam w := rfl
@[simp] theorem State.portRead_memRead (p : Byte) (acc : Config.Access) (w : Word) : (s.portRead p).memRead acc w = s.memRead acc w := rfl
@[simp] theorem State.portWrite_isRam (p v : Byte) (w : Word) : (s.portWrite p v).isRam w = s.isRam w := rfl
@[simp] theorem State.portWrite_memRead (p v : Byte) (acc : Config.Access) (w : Word) : (s.portWrite p v).memRead acc w = s.memRead acc w := rfl
@[simp] theorem State.tick_isRam (n : Nat) (w : Word) : (s.tick n).isRam w = s.isRam w := rfl
@[simp] theorem State.tick_memRead (n : Nat) (acc : Config.Access) (w : Word) : (s.tick n).memRead acc w = s.memRead acc w := rfl
@[simp] theorem State.setReg_isRam (x : Reg8) (v : Byte) (w : Word) : (s.setReg x v).isRam w = s.isRam w := rfl
@[simp] theorem State.setReg_memRead (x : Reg8) (v : Byte) (acc : Config.Access) (w : Word) : (s.setReg x v).memRead acc w = s.memRead acc w := rfl
@[simp] theorem State.setMain_isRam (k : Bank) (w : Word) : (s.setMain k).isRam w = s.isRam w := rfl
@[simp] theorem State.setMain_memRead (k : Bank) (acc : Config.Access) (w : Word) : (s.setMain k).memRead acc w = s.memRead acc w := rfl
@[simp] theorem State.setFlags_isRam (fl : Flags) (w : Word) : (s.setFlags fl).isRam w = s.isRam w := rfl
@[simp] theorem State.setFlags_memRead (fl : Flags) (acc : Config.Access) (w : Word) : (s.setFlags fl).memRead acc w = s.memRead acc w := rfl
@[simp] theorem State.setAF_isRam (x : Byte × Flags) (w : Word) : (s.setAF x).isRam w = s.isRam w := rfl
@[simp] theorem State.setAF_memRead (x : Byte × Flags) (acc : Config.Access) (w : Word) : (s.setAF x).memRead acc w = s.memRead acc w := rfl
@[simp] theorem State.setPc_isRam (v : Word) (w : Word) : (s.setPc v).isRam w = s.isRam w := rfl
@[simp] theorem State.setPc_memRead (v : Word) (acc : Config.Access) (w : Word) : (s.setPc v).memRead acc w = s.memRead acc w := rfl
@[simp] theorem State.incR_isRam (k : Nat) (w : Word) : (s.incR k).isRam w = s.isRam w := rfl
@[simp] theorem State.incR_memRead (k : Nat) (acc : Config.Access) (w : Word) : (s.incR k).memRead acc w = s.memRead acc w := rfl
@[simp] theorem State.dropWord_isRam (w : Word) : (s.dropWord).isRam w = s.isRam w := rfl
@[simp] theorem State.dropWord_memRead (acc : Config.Access) (w : Word) : (s.dropWord).memRead acc w = s.memRead acc w := rfl
@[simp] theorem State.clearInhibit_isRam (w : Word) : (s.clearInhibit).isRam w = s.isRam w := rfl
@[simp] theorem State.clearInhibit_memRead (acc : Config.Access) (w : Word) : (s.clearInhibit).memRead acc w = s.memRead acc w := rfl
@[simp] theorem State.setIdx_memRead (x : Idx) (v : Word) (acc : Config.Access) (w : Word) : (s.setIdx x v).memRead acc w = s.memRead acc w := by
  cases x <;> rfl
@[simp] theorem State.set16_memRead (q : Reg16) (v : Word) (acc : Config.Access) (w : Word) : (s.set16 q v).memRead acc w = s.memRead acc w := by
  cases q <;> rfl
@[simp] theorem State.setIdx_isRam (x : Idx) (v w : Word) : (s.setIdx x v).isRam w = s.isRam w := by cases x <;> rfl
@[simp] theorem State.set16_isRam (q : Reg16) (v w : Word) : (s.set16 q v).isRam w = s.isRam w := by cases q <;> rfl

@[simp] theorem State.memWrite_isRam (a : Word) (v : Byte) (b : Word) : (s.memWrite a v).isRam b = s.isRam b :=
  State.isRam_congr (by simp) b

/-- A read of an address of RAM after a write to it gives the byte written. -/
theorem State.memRead_memWrite_self (w : s.mem.wf = true) {a : Word} (ha : s.isRam a = true) (v : Byte) (acc : Config.Access) :
    (s.memWrite a v).memRead acc a = v := by
  simp [State.memRead, ha, Memory.read_write_self w]

/-- A write leaves what every other address reads as. -/
theorem State.memRead_memWrite_other {a b : Word} (h : b ≠ a) (v : Byte) (acc : Config.Access) :
    (s.memWrite a v).memRead acc b = s.memRead acc b := by
  have hn : b.toNat ≠ a.toNat := fun e => h (BitVec.eq_of_toNat_eq e)
  simp only [State.memRead, State.memWrite_isRam, State.memWrite_mem, State.memWrite_draw]
  split
  · split
    · exact Memory.read_write_other _ hn v
    · rfl
  · rfl

/-- A write keeps the canonical form of memory. -/
theorem State.memWrite_wf (w : s.mem.wf = true) (a : Word) (v : Byte) : (s.memWrite a v).mem.wf = true := by
  simp only [State.memWrite_mem]
  split
  · exact Memory.write_wf w a v
  · exact w

theorem State.memWrite16_wf (w : s.mem.wf = true) (a v : Word) : (s.memWrite16 a v).mem.wf = true :=
  State.memWrite_wf _ (State.memWrite_wf _ w _ _) _ _

/-- A 16-bit store leaves what every address outside its two bytes reads as. -/
theorem State.memRead_memWrite16_other {a b : Word} (h : b ≠ a) (h1 : b ≠ a + 1) (v : Word) (acc : Config.Access) :
    (s.memWrite16 a v).memRead acc b = s.memRead acc b := by
  rw [State.memWrite16, State.memRead_memWrite_other _ h1, State.memRead_memWrite_other _ h]

/-- An address and the next one are different, modulo 0x10000. -/
theorem word_ne_succ (a : Word) : a ≠ a + 1 := by
  intro h
  have := congrArg BitVec.toNat h
  simp only [BitVec.toNat_add] at this
  have := a.isLt
  have e : (1 : Word).toNat = 1 := rfl
  omega

/-- The two bytes of a 16-bit store to RAM, the low byte first. -/
theorem State.memRead_memWrite16 (w : s.mem.wf = true) {a : Word} (h0 : s.isRam a = true) (h1 : s.isRam (a + 1) = true) (v : Word)
    (acc : Config.Access) :
    (s.memWrite16 a v).memRead acc a = loByte v ∧ (s.memWrite16 a v).memRead acc (a + 1) = hiByte v := by
  refine ⟨?_, ?_⟩
  · rw [State.memWrite16, State.memRead_memWrite_other _ (word_ne_succ a), State.memRead_memWrite_self _ w h0]
  · exact State.memRead_memWrite_self _ (State.memWrite_wf _ w _ _) (by simpa using h1) _ _

/-! ## The stack -/

theorem State.push16_wf (w : s.mem.wf = true) (v : Word) : (s.push16 v).mem.wf = true := by
  rw [State.push16_mem]
  exact State.memWrite_wf _ (State.memWrite_wf _ w _ _) _ _

/-- A push leaves what every address outside its two bytes reads as. -/
theorem State.memRead_push16_other {b : Word} (h1 : b ≠ s.sp - 1) (h2 : b ≠ s.sp - 2) (v : Word) (acc : Config.Access) :
    (s.push16 v).memRead acc b = s.memRead acc b := by
  have e : (s.push16 v).memRead acc b = ((s.memWrite (s.sp - 1) (hiByte v)).memWrite (s.sp - 2) (loByte v)).memRead acc b :=
    State.memRead_congr rfl rfl rfl acc b
  rw [e, State.memRead_memWrite_other _ h2, State.memRead_memWrite_other _ h1]

theorem word_pred_ne (a : Word) : a - 1 ≠ a - 2 := by
  intro h
  have := congrArg BitVec.toNat h
  simp only [BitVec.toNat_sub] at this
  have := a.isLt
  have e1 : (1 : Word).toNat = 1 := rfl
  have e2 : (2 : Word).toNat = 2 := rfl
  omega

/-- The two bytes of a push to RAM (R66): the high byte at SP-1, the low byte at SP-2. -/
theorem State.memRead_push16 (w : s.mem.wf = true) (h1 : s.isRam (s.sp - 1) = true) (h2 : s.isRam (s.sp - 2) = true) (v : Word)
    (acc : Config.Access) :
    (s.push16 v).memRead acc (s.sp - 1) = hiByte v ∧ (s.push16 v).memRead acc (s.sp - 2) = loByte v := by
  have e (b : Word) : (s.push16 v).memRead acc b = ((s.memWrite (s.sp - 1) (hiByte v)).memWrite (s.sp - 2) (loByte v)).memRead acc b :=
    State.memRead_congr rfl rfl rfl acc b
  refine ⟨?_, ?_⟩
  · rw [e, State.memRead_memWrite_other _ (word_pred_ne _), State.memRead_memWrite_self _ w h1]
  · rw [e]
    exact State.memRead_memWrite_self _ (State.memWrite_wf _ w _ _) (by simpa using h2) _ _

/-! ## Bytes of a word -/

@[simp] theorem hiByte_word (h l : Byte) : hiByte (word h l) = h := by
  apply BitVec.eq_of_getLsbD_eq
  intro i hi
  simp only [hiByte, word, BitVec.getLsbD_extractLsb', BitVec.getLsbD_append]
  simp [hi]

@[simp] theorem loByte_word (h l : Byte) : loByte (word h l) = l := by
  apply BitVec.eq_of_getLsbD_eq
  intro i hi
  simp only [loByte, word, BitVec.getLsbD_extractLsb', BitVec.getLsbD_append]
  simp [hi]

@[simp] theorem word_hiByte_loByte (w : Word) : word (hiByte w) (loByte w) = w := by
  apply BitVec.eq_of_getLsbD_eq
  intro i hi
  simp only [word, hiByte, loByte, BitVec.getLsbD_append, BitVec.getLsbD_extractLsb']
  by_cases h : i < 8
  · simp [h]
  · simp [h, show i - 8 < 8 by omega, show 8 + (i - 8) = i by omega]

end Sys2Proof.Machine
end

