-- ==== Sys2Proof/Laws/Ops.lean ====
section
/-! SUPPORT. What the shared operations do, said once: the flag byte, the register pairs, the block bodies, the admission of the register-copy forms, the start of a step, a run under STOP, and the acceptances. -/

namespace Sys2Proof.Machine

/-! ## Flags and pairs -/

/-- Writing the flags and reading them back. -/
@[simp] theorem Flags.ofByte_toByte (fl : Flags) : Flags.ofByte fl.toByte = fl := by
  rcases fl with ⟨s, z, f5, h, f3, pv, n, c⟩
  cases s <;> cases z <;> cases f5 <;> cases h <;> cases f3 <;> cases pv <;> cases n <;> cases c <;> decide

/-- No bit of F is hardwired (R28). -/
@[simp] theorem Flags.toByte_ofByte (v : Byte) : (Flags.ofByte v).toByte = v := by
  revert v
  decide

theorem Bank.get_set (k : Bank) (x y : Reg8) (v : Byte) : (k.set x v).get y = if y = x then v else k.get y := by
  cases x <;> cases y <;> rfl

@[simp] theorem Bank.set_f (k : Bank) (x : Reg8) (v : Byte) : (k.set x v).f = k.f := by cases x <;> rfl

@[simp] theorem Bank.setBc_bc (k : Bank) (w : Word) : (k.setBc w).bc = w := word_hiByte_loByte w
@[simp] theorem Bank.setDe_de (k : Bank) (w : Word) : (k.setDe w).de = w := word_hiByte_loByte w
@[simp] theorem Bank.setHl_hl (k : Bank) (w : Word) : (k.setHl w).hl = w := word_hiByte_loByte w
@[simp] theorem Bank.setAf_af (k : Bank) (w : Word) : (k.setAf w).af = w := word_hiByte_loByte w

/-- A write of a 16-bit register is what it reads as next. -/
@[simp] theorem State.set16_get16 (s : State) (q : Reg16) (w : Word) : (s.set16 q w).get16 q = w := by
  cases q <;> simp [State.set16, State.get16]

/-! ## Block instructions -/

theorem bcNonzero_blockMove (d : Dir) (s : State) : bcNonzero (blockMove d s) = (s.main.bc - 1 != 0) := by
  simp [bcNonzero, Bank.bc, Bank.setBc]

theorem blockSearch_z (d : Dir) (s : State) :
    (blockSearch d s).flags.z = (s.main.a - s.memRead .data0 s.main.hl == 0) := by
  simp [State.flags, blockSearchFlags]

theorem bcNonzeroNotFound_blockSearch (d : Dir) (s : State) :
    bcNonzeroNotFound (blockSearch d s) = (s.main.bc - 1 != 0 && s.main.a - s.memRead .data0 s.main.hl != 0) := by
  simp only [bcNonzeroNotFound, blockSearch_z]
  simp [Bank.bc, Bank.setBc, bne]

theorem bNonzero_blockIn (d : Dir) (s : State) : bNonzero (blockIn d s) = (s.main.b - 1 != 0) := by
  simp [bNonzero, Bank.set]

theorem bNonzero_blockOut (d : Dir) (s : State) : bNonzero (blockOut d s) = (s.main.b - 1 != 0) := by
  simp [bNonzero, Bank.set]

/-! ## The register-copy forms -/

/-- A register-copy form that answers a next state was admitted. -/
theorem ifCopyAdmitted_next {s t : State} {o : Out} (h : ifCopyAdmitted s o = .next t) : o = .next t := by
  unfold ifCopyAdmitted at h
  split at h
  · exact h
  · cases h

theorem ifCopyAdmitted_of_admitted {s : State} (h : s.params.undocXYCB = .admitted) (o : Out) : ifCopyAdmitted s o = o := by
  simp [ifCopyAdmitted, h]

theorem ifCopyAdmitted_refuse {s : State} (h : s.params.undocXYCB = .refused) (o : Out) :
    ifCopyAdmitted s o = .refused .undocXYCBRefused := by
  simp [ifCopyAdmitted, h]

/-! ## The refresh register -/

/-- The count of R as a number: the low seven bits wrap, bit 7 stays (R33). -/
theorem refreshAdd_toNat (r : Byte) (k : Nat) : (refreshAdd r k).toNat = 128 * (r.toNat / 128) + (r.toNat + k) % 128 := by
  have h1 : (r &&& 0x80).toNat = 2 ^ 7 * (r.toNat / 128) := by revert r; decide
  have h2 : (r &&& 0x7F).toNat = r.toNat % 128 := by revert r; decide
  have hb : (r.toNat % 128 + k) % 128 < 2 ^ 7 := Nat.mod_lt _ (by decide)
  rw [refreshAdd, BitVec.toNat_or, h1, h2, BitVec.toNat_ofNat, Nat.mod_eq_of_lt (b := 2 ^ 8) (by omega),
    ← Nat.two_pow_add_eq_or_of_lt hb]
  omega

/-- Two counts of R are one count of their sum. -/
theorem refreshAdd_refreshAdd (r : Byte) (j k : Nat) : refreshAdd (refreshAdd r j) k = refreshAdd r (j + k) := by
  apply BitVec.eq_of_toNat_eq
  simp only [refreshAdd_toNat]
  have := r.isLt
  omega

/-! ## The start of a step -/

@[simp] theorem State.sample_main (s : State) : s.sample.main = s.main := by unfold State.sample; split <;> rfl
@[simp] theorem State.sample_alt (s : State) : s.sample.alt = s.alt := by unfold State.sample; split <;> rfl
@[simp] theorem State.sample_ix (s : State) : s.sample.ix = s.ix := by unfold State.sample; split <;> rfl
@[simp] theorem State.sample_iy (s : State) : s.sample.iy = s.iy := by unfold State.sample; split <;> rfl
@[simp] theorem State.sample_sp (s : State) : s.sample.sp = s.sp := by unfold State.sample; split <;> rfl
@[simp] theorem State.sample_pc (s : State) : s.sample.pc = s.pc := by unfold State.sample; split <;> rfl
@[simp] theorem State.sample_i (s : State) : s.sample.i = s.i := by unfold State.sample; split <;> rfl
@[simp] theorem State.sample_r (s : State) : s.sample.r = s.r := by unfold State.sample; split <;> rfl
@[simp] theorem State.sample_iff1 (s : State) : s.sample.iff1 = s.iff1 := by unfold State.sample; split <;> rfl
@[simp] theorem State.sample_iff2 (s : State) : s.sample.iff2 = s.iff2 := by unfold State.sample; split <;> rfl
@[simp] theorem State.sample_im (s : State) : s.sample.im = s.im := by unfold State.sample; split <;> rfl
@[simp] theorem State.sample_halted (s : State) : s.sample.halted = s.halted := by unfold State.sample; split <;> rfl
@[simp] theorem State.sample_intInhibit (s : State) : s.sample.intInhibit = s.intInhibit := by unfold State.sample; split <;> rfl
@[simp] theorem State.sample_mem (s : State) : s.sample.mem = s.mem := by unfold State.sample; split <;> rfl
@[simp] theorem State.sample_cycles (s : State) : s.sample.cycles = s.cycles := by unfold State.sample; split <;> rfl
@[simp] theorem State.sample_events (s : State) : s.sample.events = s.events := by unfold State.sample; split <;> rfl
@[simp] theorem State.sample_params (s : State) : s.sample.params = s.params := by unfold State.sample; split <;> rfl
@[simp] theorem State.sample_draw (s : State) : s.sample.draw = s.draw + 1 := by unfold State.sample; split <;> rfl

/-- Everything a step can be (R130): an acceptance, a halt cycle, or one execute call. -/
theorem step_cases {s t : State} (h : step s = .next t) :
    (boundary s.sample = .nmi ∧ t = acceptNmi s.sample) ∨
    (boundary s.sample = .int ∧ acceptInt s.sample = .next t) ∨
    (boundary s.sample = .run ∧ s.halted = true ∧ t = haltCycle s.sample.clearInhibit) ∨
    (boundary s.sample = .run ∧ s.halted = false ∧
      exec (decodeAt s.sample.clearInhibit) (fetched (decodeAt s.sample.clearInhibit) s.sample.clearInhibit) = .next t) := by
  unfold step at h
  split at h
  · next hb => exact .inl ⟨hb, by simpa using h.symm⟩
  · next hb => exact .inr (.inl ⟨hb, h⟩)
  · next hb =>
    unfold runNext at h
    split at h
    · next hh => exact .inr (.inr (.inl ⟨hb, by simpa using hh, by simpa using h.symm⟩))
    · next hh => exact .inr (.inr (.inr ⟨hb, by simpa using hh, h⟩))

/-! ## Runs under STOP (R8, D26) -/

@[simp] theorem runUntil_zero (stop : State → Bool) (s : State) : runUntil stop 0 s = .next s := rfl

/-- A run ends at a boundary where STOP holds. -/
theorem runUntil_of_stop {stop : State → Bool} {s : State} (h : stop s = true) (n : Nat) : runUntil stop n s = .next s := by
  cases n with
  | zero => rfl
  | succ n => simp [runUntil, h]

/-- Where STOP does not hold and a step is left, the run goes on from the step's next state. -/
theorem runUntil_of_step {stop : State → Bool} {s t : State} (h : stop s = false) (hs : step s = .next t) (n : Nat) :
    runUntil stop (n + 1) s = runUntil stop n t := by
  simp [runUntil, h, hs]

/-! ## Acceptances -/

/-- What a maskable acceptance answers, mode by mode (R405 to R408). -/
theorem acceptInt_cases {s t : State} (h : acceptInt s = .next t) :
    (s.im = .im0 ∧ isRstByte s.busByte = true ∧ t = enterMode0 s) ∨ (s.im = .im1 ∧ t = enterMode1 s) ∨ (s.im = .im2 ∧ t = enterMode2 s) := by
  unfold acceptInt at h
  split at h
  · next hm =>
    split at h
    · next hb => exact .inl ⟨hm, hb, by simpa using h.symm⟩
    · cases h
  · next hm => exact .inr (.inl ⟨hm, by simpa using h.symm⟩)
  · next hm => exact .inr (.inr ⟨hm, by simpa using h.symm⟩)

end Sys2Proof.Machine
end

