-- ==== Sys2Proof/Laws/Shapes.lean ====
section
/-! SUPPORT. The shared shapes of the meanings as one state expression each, and what the stack and the acceptances leave, in the terms of Safety.lean. -/

namespace Sys2Proof.Machine

/-! ## Stores -/

/-- A store changes memory and nothing else. -/
theorem State.memWrite_eq (s : State) (a : Word) (v : Byte) : s.memWrite a v = { s with mem := (s.memWrite a v).mem } := by
  unfold State.memWrite
  split <;> rfl

/-- A record and a store commute. -/
theorem State.notifyPlain_memWrite (s : State) (a : Word) (v : Byte) : s.notifyPlain.memWrite a v = (s.memWrite a v).notifyPlain := by
  have e : s.notifyPlain.isRam a = s.isRam a := rfl
  simp only [State.memWrite, e]
  split <;> rfl

/-- The record leaves the address of an operand. -/
theorem State.notifyPlain_addr (s : State) (p : Ptr) : s.notifyPlain.addr p = s.addr p := by
  cases p with
  | idx x d => cases x <;> rfl
  | hl | bc | de | abs _ => rfl

/-- A push changes memory and SP and nothing else. -/
theorem State.push16_eq (s : State) (v : Word) : s.push16 v = { s with sp := s.sp - 2, mem := (s.push16 v).mem } := by
  unfold State.push16
  rw [State.memWrite_eq (s.memWrite _ _), State.memWrite_eq s]

/-! ## Shapes -/

/-- An 8-bit load (R160). -/
theorem load8_eq (dst : Loc8) (src : Src8) (t : Nat) (s : State) :
    load8 dst src t s = .next ((s.set8 dst (s.src8 src)).done plainRecord t) := by
  cases dst with
  | reg r => rfl
  | mem p =>
    simp only [load8, State.set8]
    rw [State.notifyPlain_memWrite, State.notifyPlain_addr]
    rfl
  | half x h => cases x <;> cases h <;> rfl

/-- An operation on one operand that writes no flag (R304). -/
theorem change8_eq (f : Byte → Byte) (l : Loc8) (t : Nat) (s : State) :
    change8 f l t s = .next ((s.set8 l (f (s.get8 l))).done plainRecord t) := by
  cases l with
  | reg r => rfl
  | mem p =>
    simp only [change8, State.set8]
    rw [State.notifyPlain_memWrite, State.notifyPlain_addr]
    rfl
  | half x h => cases x <;> cases h <;> rfl

/-- An operation on one operand with its flags (R245 to R250, R304). -/
theorem modify8_eq (f : Byte → Flags → Byte × Flags) (l : Loc8) (t : Nat) (s : State) :
    modify8 f l t s = .next (((s.set8 l (f (s.get8 l) s.flags).1).setFlags (f (s.get8 l) s.flags).2).done plainRecord t) := by
  cases l with
  | reg r => rfl
  | mem p =>
    simp only [modify8, State.set8]
    rw [State.notifyPlain_memWrite, State.notifyPlain_addr]
    rfl
  | half x h => cases x <;> cases h <;> rfl

/-- An operand in memory has the same address after a write to it. -/
theorem State.set8_mem_addr (s : State) (p : Ptr) (v : Byte) : (s.set8 (.mem p) v).addr p = s.addr p := by
  cases p with
  | idx x d => cases x <;> simp [State.set8, State.addr, State.idx]
  | hl | bc | de | abs _ => simp [State.set8, State.addr]

/-! ## Rotates and bits, bit by bit -/

/-- R305: the shift expressions move the bits as the table says. -/
theorem rotApply_eq (k : Rot) (v : Byte) (cin : Bool) : rotApply k v cin = (rotByte k v cin, rotOut k v) := by
  cases k <;> cases cin <;> revert v <;> decide

/-- The mask expressions of RES and SET, bit by bit (R317, R318). -/
theorem resBit_eq (b : Oct) (v : Byte) : resBit b v = resSetByte false b v := by
  cases b <;> revert v <;> decide

theorem setBit_eq (b : Oct) (v : Byte) : setBit b v = resSetByte true b v := by
  cases b <;> revert v <;> decide

/-! ## The stack and the acceptances -/

/-- What a push leaves (R66). -/
theorem pushed_push16 (s : State) (v : Word) : Pushed s (s.push16 v) v where
  sp := rfl
  high w h acc := by
    have e : (s.push16 v).memRead acc (s.sp - 1) = ((s.memWrite (s.sp - 1) (hiByte v)).memWrite (s.sp - 2) (loByte v)).memRead acc (s.sp - 1) :=
      State.memRead_congr rfl rfl rfl acc _
    rw [e, State.memRead_memWrite_other _ (word_pred_ne _), State.memRead_memWrite_self _ w h]
  low w h acc := by
    have e : (s.push16 v).memRead acc (s.sp - 2) = ((s.memWrite (s.sp - 1) (hiByte v)).memWrite (s.sp - 2) (loByte v)).memRead acc (s.sp - 2) :=
      State.memRead_congr rfl rfl rfl acc _
    rw [e]
    exact State.memRead_memWrite_self _ (State.memWrite_wf _ w _ _) (by simpa using h) _ _
  others acc a h := by
    simp only [List.mem_cons, List.not_mem_nil, or_false, not_or] at h
    exact State.memRead_push16_other _ h.1 h.2 _ _

/-- `Pushed` looks only at memory, SP, the parameters and the draw of its two states. -/
theorem Pushed.congr {s s' t t' : State} {v : Word} (h : Pushed s t v) (hm : s'.mem = s.mem) (hp : s'.params = s.params)
    (hd : s'.draw = s.draw) (hs : s'.sp = s.sp) (hm' : t'.mem = t.mem) (hp' : t'.params = t.params) (hd' : t'.draw = t.draw)
    (hs' : t'.sp = t.sp) : Pushed s' t' v where
  sp := by rw [hs', hs, h.sp]
  high w r acc := by
    rw [State.memRead_congr hm' hp' hd', hs]
    exact h.high (hm ▸ w) (by rw [← State.isRam_congr hp, ← hs]; exact r) acc
  low w r acc := by
    rw [State.memRead_congr hm' hp' hd', hs]
    exact h.low (hm ▸ w) (by rw [← State.isRam_congr hp, ← hs]; exact r) acc
  others acc a ha := by
    rw [State.memRead_congr hm' hp' hd', State.memRead_congr hm hp hd]
    exact h.others acc a (hs ▸ ha)

/-- The word on the stack after a push, with the stack in plain RAM. -/
theorem Pushed.stackTop {s t : State} {v : Word} (h : Pushed s t v) (w : s.mem.wf = true) (h1 : s.isRam (s.sp - 1) = true)
    (h2 : s.isRam (s.sp - 2) = true) : t.stackTop = v := by
  have e : s.sp - 2 + 1 = s.sp - 1 := by bv_omega
  simp only [State.stackTop, State.memRead16, h.sp, e, h.high w h1, h.low w h2, word_hiByte_loByte]

/-- The common part of every acceptance pushes PC. -/
theorem pushed_takeInterrupt (s : State) : Pushed s s.takeInterrupt s.pc := by
  unfold State.takeInterrupt
  generalize hu : ({ s with halted := false, intInhibit := .none }.incR 1 : State) = u
  refine (pushed_push16 u s.pc).congr ?_ ?_ ?_ ?_ rfl rfl rfl rfl <;> subst hu <;> rfl

/-- The common part of every acceptance as one state (R405, R409). -/
theorem takeInterrupt_eq (s : State) :
    s.takeInterrupt = { s with halted := false, intInhibit := .none, r := refreshAdd s.r 1, sp := s.sp - 2, mem := s.takeInterrupt.mem } := by
  simp only [State.takeInterrupt]
  rw [State.push16_eq]
  rfl

/-- An NMI acceptance as one state (R409). -/
theorem acceptNmi_eq (s : State) :
    acceptNmi s = { s with nmiReq := false, iff1 := false, halted := false, intInhibit := .none, r := refreshAdd s.r 1,
                           sp := s.sp - 2, mem := (acceptNmi s).mem, pc := 0x0066, cycles := s.cycles + 11 } := by
  simp only [acceptNmi]
  rw [takeInterrupt_eq]
  rfl

/-- The common part of a maskable acceptance as one state (R405). -/
theorem takeInt_eq (s : State) :
    s.takeInt = { s with iff1 := false, iff2 := false, halted := false, intInhibit := .none, r := refreshAdd s.r 1,
                         sp := s.sp - 2, mem := s.takeInt.mem } := by
  simp only [State.takeInt]
  rw [takeInterrupt_eq]

/-- Placing a table word keeps the canonical form. -/
theorem placeWord_wf {m : Memory} (w : Memory.wf m = true) (a : Word) (nbits n : Nat) : Memory.wf (placeWord m a nbits n) = true :=
  Memory.write_wf (Memory.write_wf (Memory.write_wf (Memory.write_wf w a _) (a + 1) _) (a + 2) _) (a + 3) _

end Sys2Proof.Machine
end

