-- ==== Sys2Proof/Tests/Slice0.lean ====
section
/-! SUPPORT. The model's own tests: ill-formed terms that WellFormed refuses, words written out from the spec's encodings, one step on small states from spec/95_test_vectors.md, and a witness for the hypotheses of each statement. -/

open Sys2Proof Sys2Proof.Machine

namespace Sys2Proof.Tests

/-! ## Helpers -/

/-- The start state of spec/95_test_vectors.md: `bytes` at 0x0100, `data` elsewhere, SP = 0x8000 and every register zero. -/
def start (bytes : List Byte) (data : List (Nat × Byte)) : State :=
  let code := bytes.zipIdx.map (fun x => (0x0100 + x.2, x.1))
  { State.reset with pc := 0x0100, sp := 0x8000, mem := (code ++ data).foldl (fun m x => Memory.write m x.1 x.2) [] }

/-- Whether one step answers a next state with a property. -/
def stepGives (s : State) (p : State → Bool) : Bool :=
  match step s with
  | .next t => p t
  | .fault _ | .refused _ => false

/-! ## WellFormed: one ill-formed term for each check, and the codes at its edges -/

theorem test_wf_retn : (Instr.retn .o1).wf = false ∧ (Instr.retn .o0).wf = true ∧ (Instr.retn .o7).wf = true := by decide
theorem test_wf_im0 : (Instr.im0 .o2).wf = false ∧ (Instr.im0 .o7).wf = false ∧ (Instr.im0 .o5).wf = true := by decide
theorem test_wf_im1 : (Instr.im1 .o1).wf = false ∧ (Instr.im1 .o3).wf = false ∧ (Instr.im1 .o6).wf = true := by decide
theorem test_wf_im2 : (Instr.im2 .o2).wf = false ∧ (Instr.im2 .o4).wf = false ∧ (Instr.im2 .o7).wf = true := by decide
theorem test_wf_edNop : (Instr.edNop .o5).wf = false ∧ (Instr.edNop .o0).wf = false ∧ (Instr.edNop .o6).wf = true := by decide
theorem test_wf_hook00 : (Instr.unsupportedED00 0x40).wf = false ∧ (Instr.unsupportedED00 0x3F).wf = true := by decide
theorem test_wf_hook80 : (Instr.unsupportedED80 0x7F).wf = false ∧ (Instr.unsupportedED80 0xA0).wf = false ∧
    (Instr.unsupportedED80 0x9F).wf = true := by decide
theorem test_wf_hookA4 : (Instr.unsupportedEDA4 0xA3).wf = false ∧ (Instr.unsupportedEDA4 0xA8).wf = false ∧
    (Instr.unsupportedEDA4 0xE4).wf = false ∧ (Instr.unsupportedEDA4 0xBF).wf = true := by decide
theorem test_wf_hookC0 : (Instr.unsupportedEDC0 0xBF).wf = false ∧ (Instr.unsupportedEDC0 0xC0).wf = true := by decide

/-! ## Decoding: words written out from the encodings of spec/30_encoding.md and of the rules -/

/-- R161: 01 yyy zzz; R165: 36 n; R173: 3A nn, the low byte first; R174: ED 57; R166: DD 01 yyy 110 d; R168: DD 36 d n. -/
theorem test_decode_load8 :
    decode [0b01000111] = .ok (.ldRR .b .a, []) ∧ decode [0b01110110] = .ok (.halt, []) ∧ decode [0x36, 0x41] = .ok (.ldIndHLN 0x41, []) ∧
    decode [0x3A, 0x34, 0x12] = .ok (.ldAIndNn 0x1234, []) ∧ decode [0xED, 0x57] = .ok (.ldAI, []) ∧
    decode [0xFD, 0b01100110, 0x80] = .ok (.ldHIYd 0x80, []) ∧ decode [0xDD, 0x36, 0xFF, 0x77] = .ok (.ldIXdN 0xFF 0x77, []) ∧
    decode [0xDD, 0x65] = .ok (.ldIXHIXL, []) := by decide
/-- R190: 00 pp0 001 nn; R193: ED 01 pp1 011 nn; R196: ED 01 pp0 011 nn; R198: 11 qq0 101; R201: FD E1. -/
theorem test_decode_load16 :
    decode [0b00010001, 0x01, 0x80] = .ok (.ldRpNn .de 0x8001, []) ∧ decode [0xED, 0b01001011, 0x00, 0x40] = .ok (.ldRpIndNn .bc 0x4000, []) ∧
    decode [0xED, 0b01110011, 0xFF, 0xFF] = .ok (.ldIndNnRp .sp 0xFFFF, []) ∧ decode [0b11110101] = .ok (.pushQq .af, []) ∧
    decode [0xFD, 0xE1] = .ok (.popIY, []) := by decide
/-- R211, R212, R214, R216, R223: 08, D9, DD E3, ED A0, ED B9. -/
theorem test_decode_exchange :
    decode [0x08] = .ok (.exAFAF, []) ∧ decode [0xD9] = .ok (.exx, []) ∧ decode [0xDD, 0xE3] = .ok (.exIndSPIX, []) ∧
    decode [0xED, 0xA0] = .ok (.ldi, []) ∧ decode [0xED, 0xB9] = .ok (.cpdr, []) := by decide
/-- R106, R118: 10 alu zzz, 11 alu 110 n; R245: 00 yyy 100; R250: FD 35 d. -/
theorem test_decode_alu8 :
    decode [0b10011011] = .ok (.sbcAR .e, []) ∧ decode [0b11101110, 0x55] = .ok (.xorN 0x55, []) ∧ decode [0b00101100] = .ok (.incR .l, []) ∧
    decode [0xFD, 0x35, 0xFF] = .ok (.decIYd 0xFF, []) ∧ decode [0xDD, 0x84] = .ok (.addAIXH, []) := by decide
/-- R262, R268, R272: the ED mirrors keep their code. -/
theorem test_decode_control :
    decode [0xED, 0x7C] = .ok (.neg .o7, []) ∧ decode [0xED, 0x6E] = .ok (.im0 .o5, []) ∧ decode [0xED, 0x77] = .ok (.edNop .o6, []) ∧
    decode [0xFB] = .ok (.ei, []) := by decide
/-- R280: 00 pp1 001; R282: ED 01 pp0 010; R283: DD 29 is ADD IX,IX; R287: FD 2B. -/
theorem test_decode_alu16 :
    decode [0b00111001] = .ok (.addHLRp .sp, []) ∧ decode [0xED, 0b01010010] = .ok (.sbcHLRp .de, []) ∧ decode [0xDD, 0x29] = .ok (.addIXPp .xy, []) ∧
    decode [0xFD, 0x2B] = .ok (.decIY, []) := by decide
/-- R107, R119: CB 00 rot zzz, CB 01 bbb zzz; R122: DD CB d op. -/
theorem test_decode_rotate :
    decode [0xCB, 0b00111110] = .ok (.srlIndHL, []) ∧ decode [0xCB, 0b01101101] = .ok (.bitBR .o5 .l, []) ∧
    decode [0xDD, 0xCB, 0x7F, 0b00011001] = .ok (.rrIXdR 0x7F .c, []) ∧ decode [0xFD, 0xCB, 0x80, 0b11111110] = .ok (.setBIYd .o7 0x80, []) ∧
    decode [0xED, 0x6F] = .ok (.rld, []) := by decide
/-- R331: 11 ccc 010 nn; R333: 00 1cc 000 e; R334: 10 e; R343: 11 ppp 111; R341, R342: ED 4D and the RETN codes. -/
theorem test_decode_jump :
    decode [0b11111010, 0xCD, 0xAB] = .ok (.jpCcNn .m 0xABCD, []) ∧ decode [0b00111000, 0xFE] = .ok (.jrCc .c 0xFE, []) ∧
    decode [0x10, 0x80] = .ok (.djnz 0x80, []) ∧ decode [0b11111111] = .ok (.rst .o7, []) ∧ decode [0xED, 0x4D] = .ok (.reti, []) ∧
    decode [0xED, 0x5D] = .ok (.retn .o3, []) := by decide
/-- R361, R362, R365: ED 01 yyy 000, ED 70, ED 71; R374: ED BB. -/
theorem test_decode_io :
    decode [0xED, 0b01111000] = .ok (.inRPortC .a, []) ∧ decode [0xED, 0x70] = .ok (.inFPortC, []) ∧ decode [0xED, 0x71] = .ok (.outPortC0, []) ∧
    decode [0xED, 0xBB] = .ok (.otdr, []) := by decide
/-- R134, R139: the four ranges of the hook, and the wasted prefixes, which leave the byte after them. -/
theorem test_decode_fallback :
    decode [0xED, 0x3F] = .ok (.unsupportedED00 0x3F, []) ∧ decode [0xED, 0x9F] = .ok (.unsupportedED80 0x9F, []) ∧
    decode [0xED, 0xBC] = .ok (.unsupportedEDA4 0xBC, []) ∧ decode [0xED, 0xFF] = .ok (.unsupportedEDC0 0xFF, []) ∧
    decode [0xFD, 0xDD, 0x21] = .ok (.wastedFD, [0xDD, 0x21]) := by decide
/-- A list that ends inside an instruction is rejected by name. -/
theorem test_decode_truncated :
    decode [] = .error .truncated ∧ decode [0xDD] = .error .truncated ∧ decode [0xDD, 0xCB, 0x00] = .error .truncated ∧
    decode [0x21, 0x00] = .error .truncated := by decide
/-- The table's numbering: bit 0 is the low bit of the first byte (DD CB d 06 is RLC (IX+d)). -/
theorem test_table_word :
    decodeTableWord 32 0x0600CBDD = some (.rlcIXd 0x00) ∧ decodeTableWord 8 0x76 = some .halt ∧ decodeTableWord 8 0xDD = some .wastedDD := by decide
/-- `withFetchWord` makes the next step after reset run the word. -/
theorem test_fetch_word :
    stepGives (State.reset.withFetchWord 24 0x1234C3) (fun t => t.pc == 0x1234 && t.cycles == 10) = true ∧
    stepGives (State.reset.withFetchWord 16 0x44ED) (fun t => t.pc == 0x0002 && t.flags.z) = true := by decide

/-! ## One step each, from spec/95_test_vectors.md -/

/-- spec/95_test_vectors.md E12. -/
theorem test_e12_reti : stepGives { start [0xED, 0x4D] [(0x7FFE, 0x00), (0x7FFF, 0x02)] with sp := 0x7FFE }
    (fun t => t.main.f == 0x00 && t.sp == 0x8000 && t.pc == 0x0200 && t.cycles == 14) = true := by decide
/-- spec/95_test_vectors.md E16. -/
theorem test_e16_call_z_nn_not_taken : stepGives (start [0xCC, 0x00, 0x40] [])
    (fun t => t.main.f == 0x00 && t.pc == 0x0103 && t.cycles == 10) = true := by decide
/-- spec/95_test_vectors.md E18. -/
theorem test_e18_ld_a_b_register_register : stepGives { start [0x78] [] with main := { Bank.zero with b := 0x05 } }
    (fun t => t.main.a == 0x05 && t.main.f == 0x00 && t.pc == 0x0101 && t.cycles == 4) = true := by decide
/-- spec/95_test_vectors.md V1. -/
theorem test_v1_nop : stepGives { start [0x00] [] with r := 0x7F }
    (fun t => t.main.f == 0x00 && t.r == 0x00 && t.pc == 0x0101 && t.cycles == 4) = true := by decide
/-- spec/95_test_vectors.md V4. -/
theorem test_v4_ed_00_hook : stepGives (start [0xED, 0x00] [])
    (fun t => t.main.f == 0x00 && t.r == 0x02 && t.pc == 0x0102 && t.cycles == 8) = true := by decide
/-- spec/95_test_vectors.md V5. -/
theorem test_v5_ed_80_hook : stepGives (start [0xED, 0x80] [])
    (fun t => t.main.f == 0x00 && t.r == 0x02 && t.pc == 0x0102 && t.cycles == 8) = true := by decide
/-- spec/95_test_vectors.md V6. -/
theorem test_v6_ed_a4_hook : stepGives (start [0xED, 0xA4] [])
    (fun t => t.main.f == 0x00 && t.r == 0x02 && t.pc == 0x0102 && t.cycles == 8) = true := by decide
/-- spec/95_test_vectors.md V9. -/
theorem test_v9_dd_cb_d_op : stepGives { start [0xDD, 0xCB, 0x00, 0x06] [(0x4000, 0x01)] with ix := 0x4000 }
    (fun t => t.main.f == 0x00 && t.r == 0x02 && Memory.read t.mem 0x4000 == 0x02 && t.pc == 0x0104 && t.cycles == 23) = true := by decide
/-- spec/95_test_vectors.md V10. -/
theorem test_v10_dd_00_fallback_1_step : stepGives (start [0xDD, 0x00] [])
    (fun t => t.main.f == 0x00 && t.r == 0x02 && t.intInhibit == .afterPrefix && t.pc == 0x0101 && t.cycles == 4) = true := by decide
/-- spec/95_test_vectors.md V18. -/
theorem test_v18_ld_h_ix_d : stepGives { start [0xDD, 0x66, 0x01] [(0x2001, 0xAB)] with ix := 0x2000 }
    (fun t => t.main.f == 0x00 && t.main.h == 0xAB && t.pc == 0x0103 && t.cycles == 19) = true := by decide
/-- spec/95_test_vectors.md V19. -/
theorem test_v19_ld_iy_d_l : stepGives { start [0xFD, 0x75, 0xFE] [] with main := { Bank.zero with l := 0x5C }, iy := 0x2002 }
    (fun t => t.main.f == 0x00 && Memory.read t.mem 0x2000 == 0x5C && t.pc == 0x0103 && t.cycles == 19) = true := by decide
/-- spec/95_test_vectors.md V20. -/
theorem test_v20_ld_ixh_ixl : stepGives { start [0xDD, 0x65] [] with ix := 0x1234 }
    (fun t => t.main.f == 0x00 && t.ix == 0x3434 && t.pc == 0x0102 && t.cycles == 8) = true := by decide
/-- spec/95_test_vectors.md V21. -/
theorem test_v21_ld_b_iyl : stepGives { start [0xFD, 0x45] [] with iy := 0xABCD }
    (fun t => t.main.f == 0x00 && t.main.b == 0xCD && t.pc == 0x0102 && t.cycles == 8) = true := by decide
/-- spec/95_test_vectors.md V22. -/
theorem test_v22_ld_ix_d_n : stepGives { start [0xDD, 0x36, 0xFF, 0x77] [] with ix := 0x3001 }
    (fun t => t.main.f == 0x00 && Memory.read t.mem 0x3000 == 0x77 && t.pc == 0x0104 && t.cycles == 19) = true := by decide
/-- spec/95_test_vectors.md V23. -/
theorem test_v23_ld_a_nn : stepGives (start [0x3A, 0xFF, 0xFF] [(0xFFFF, 0x99)])
    (fun t => t.main.a == 0x99 && t.main.f == 0x00 && t.pc == 0x0103 && t.cycles == 13) = true := by decide
/-- spec/95_test_vectors.md V24. -/
theorem test_v24_ld_a_i : stepGives { start [0xED, 0x57] [] with main := { Bank.zero with f := 0x01 } }
    (fun t => t.main.f == 0x41 && t.pc == 0x0102 && t.cycles == 9) = true := by decide
/-- spec/95_test_vectors.md V25. -/
theorem test_v25_ld_a_r : stepGives { start [0xED, 0x5F] [] with r := 0xFF, iff2 := true }
    (fun t => t.main.a == 0x81 && t.main.f == 0x84 && t.r == 0x81 && t.pc == 0x0102 && t.cycles == 9) = true := by decide
/-- spec/95_test_vectors.md V26. -/
theorem test_v26_ld_r_a : stepGives { start [0xED, 0x4F] [] with main := { Bank.zero with a := 0x7F } }
    (fun t => t.main.f == 0x00 && t.r == 0x7F && t.pc == 0x0102 && t.cycles == 9) = true := by decide
/-- spec/95_test_vectors.md V27. -/
theorem test_v27_ld_nn_hl : stepGives { start [0x22, 0xFF, 0xFF] [] with main := { Bank.zero with h := 0xA1, l := 0xB2 } }
    (fun t => t.main.f == 0x00 && Memory.read t.mem 0x0000 == 0xA1 && Memory.read t.mem 0xFFFF == 0xB2 && t.pc == 0x0103 && t.cycles == 16) = true := by decide
/-- spec/95_test_vectors.md V28. -/
theorem test_v28_ld_bc_nn : stepGives (start [0xED, 0x4B, 0x00, 0x40] [(0x4000, 0x34), (0x4001, 0x12)])
    (fun t => t.main.f == 0x00 && t.main.b == 0x12 && t.main.c == 0x34 && t.pc == 0x0104 && t.cycles == 20) = true := by decide
/-- spec/95_test_vectors.md V31. -/
theorem test_v31_push_af : stepGives { start [0xF5] [] with main := { Bank.zero with a := 0x12, f := 0xD7 } }
    (fun t => t.main.f == 0xD7 && t.sp == 0x7FFE && Memory.read t.mem 0x7FFE == 0xD7 && Memory.read t.mem 0x7FFF == 0x12 && t.pc == 0x0101 && t.cycles == 11) = true := by decide
/-- spec/95_test_vectors.md V32. -/
theorem test_v32_pop_af : stepGives { start [0xF1] [(0x7FFE, 0xFF), (0x7FFF, 0x00)] with sp := 0x7FFE }
    (fun t => t.main.f == 0xFF && t.sp == 0x8000 && t.pc == 0x0101 && t.cycles == 10) = true := by decide
/-- spec/95_test_vectors.md V33. -/
theorem test_v33_push_bc_at_sp_0x0001 : stepGives { start [0xC5] [] with main := { Bank.zero with b := 0xBE, c := 0xEF }, sp := 0x0001 }
    (fun t => t.main.f == 0x00 && t.sp == 0xFFFF && Memory.read t.mem 0x0000 == 0xBE && Memory.read t.mem 0xFFFF == 0xEF && t.pc == 0x0101 && t.cycles == 11) = true := by decide
/-- spec/95_test_vectors.md V34. -/
theorem test_v34_pop_ix : stepGives { start [0xDD, 0xE1] [(0x0000, 0x22), (0xFFFF, 0x11)] with sp := 0xFFFF }
    (fun t => t.main.f == 0x00 && t.ix == 0x2211 && t.sp == 0x0001 && t.pc == 0x0102 && t.cycles == 14) = true := by decide
/-- spec/95_test_vectors.md V37. -/
theorem test_v37_exx : stepGives { start [0xD9] [] with main := { Bank.zero with b := 0x11, c := 0x11, d := 0x22, e := 0x22, h := 0x33, l := 0x33 } }
    (fun t => t.main.f == 0x00 && t.main.b == 0x00 && t.main.c == 0x00 && t.main.d == 0x00 && t.main.e == 0x00 && t.main.h == 0x00 && t.main.l == 0x00 && t.alt.b == 0x11 && t.alt.c == 0x11 && t.alt.d == 0x22 && t.alt.e == 0x22 && t.alt.h == 0x33 && t.alt.l == 0x33 && t.pc == 0x0101 && t.cycles == 4) = true := by decide
/-- spec/95_test_vectors.md V38. -/
theorem test_v38_ex_sp_iy : stepGives { start [0xFD, 0xE3] [(0x0000, 0x02), (0xFFFF, 0x01)] with iy := 0xAABB, sp := 0xFFFF }
    (fun t => t.main.f == 0x00 && t.iy == 0x0201 && Memory.read t.mem 0x0000 == 0xAA && Memory.read t.mem 0xFFFF == 0xBB && t.pc == 0x0102 && t.cycles == 23) = true := by decide
/-- spec/95_test_vectors.md V39. -/
theorem test_v39_ldi_with_bc_0 : stepGives { start [0xED, 0xA0] [(0x1000, 0x28)] with main := { Bank.zero with d := 0x20, h := 0x10 } }
    (fun t => t.main.f == 0x0C && t.main.b == 0xFF && t.main.c == 0xFF && t.main.e == 0x01 && t.main.l == 0x01 && Memory.read t.mem 0x2000 == 0x28 && t.pc == 0x0102 && t.cycles == 16) = true := by decide
/-- spec/95_test_vectors.md V41. -/
theorem test_v41_ldd_at_0x0000 : stepGives { start [0xED, 0xA8] [(0x0000, 0x00)] with main := { Bank.zero with c := 0x01 } }
    (fun t => t.main.f == 0x00 && t.main.c == 0x00 && t.main.d == 0xFF && t.main.e == 0xFF && t.main.h == 0xFF && t.main.l == 0xFF && Memory.read t.mem 0x0000 == 0x00 && t.pc == 0x0102 && t.cycles == 16) = true := by decide
/-- spec/95_test_vectors.md V42. -/
theorem test_v42_ldir_first_iteration : stepGives { start [0xED, 0xB0] [(0x1000, 0x11)] with main := { Bank.zero with c := 0x02, d := 0x20, h := 0x10 } }
    (fun t => t.main.f == 0x04 && t.main.c == 0x01 && t.main.e == 0x01 && t.main.l == 0x01 && Memory.read t.mem 0x2000 == 0x11 && t.pc == 0x0100 && t.cycles == 21) = true := by decide
/-- spec/95_test_vectors.md V43. -/
theorem test_v43_lddr_bc_1 : stepGives { start [0xED, 0xB8] [(0x1000, 0x11)] with main := { Bank.zero with c := 0x01, d := 0x20, h := 0x10 } }
    (fun t => t.main.f == 0x00 && t.main.c == 0x00 && t.main.d == 0x1F && t.main.e == 0xFF && t.main.h == 0x0F && t.main.l == 0xFF && Memory.read t.mem 0x2000 == 0x11 && t.pc == 0x0102 && t.cycles == 16) = true := by decide
/-- spec/95_test_vectors.md V44. -/
theorem test_v44_cpi_a_v : stepGives { start [0xED, 0xA1] [(0x3000, 0x01)] with main := { Bank.zero with f := 0x01, c := 0x01, h := 0x30 } }
    (fun t => t.main.f == 0xBB && t.main.c == 0x00 && t.main.l == 0x01 && t.pc == 0x0102 && t.cycles == 16) = true := by decide
/-- spec/95_test_vectors.md V46. -/
theorem test_v46_cpdr_found_first : stepGives { start [0xED, 0xB9] [(0x3000, 0x00)] with main := { Bank.zero with c := 0x03, h := 0x30 } }
    (fun t => t.main.f == 0x46 && t.main.c == 0x02 && t.main.h == 0x2F && t.main.l == 0xFF && t.pc == 0x0102 && t.cycles == 16) = true := by decide
/-- spec/95_test_vectors.md V47. -/
theorem test_v47_add_a_b : stepGives { start [0x80] [] with main := { Bank.zero with a := 0x7F, b := 0x01 } }
    (fun t => t.main.a == 0x80 && t.main.f == 0x94 && t.pc == 0x0101 && t.cycles == 4) = true := by decide
/-- spec/95_test_vectors.md V49. -/
theorem test_v49_add_a_a : stepGives { start [0x87] [] with main := { Bank.zero with a := 0x80 } }
    (fun t => t.main.a == 0x00 && t.main.f == 0x45 && t.pc == 0x0101 && t.cycles == 4) = true := by decide
/-- spec/95_test_vectors.md V50. -/
theorem test_v50_adc_a_n : stepGives { start [0xCE, 0xFF] [] with main := { Bank.zero with f := 0x01 } }
    (fun t => t.main.f == 0x51 && t.pc == 0x0102 && t.cycles == 7) = true := by decide
/-- spec/95_test_vectors.md V51. -/
theorem test_v51_adc_a_hl : stepGives { start [0x8E] [(0x4000, 0x01)] with main := { Bank.zero with a := 0x0E, f := 0x01, h := 0x40 } }
    (fun t => t.main.a == 0x10 && t.main.f == 0x10 && t.pc == 0x0101 && t.cycles == 7) = true := by decide
/-- spec/95_test_vectors.md V52. -/
theorem test_v52_sub_a : stepGives { start [0x97] [] with main := { Bank.zero with a := 0x5A } }
    (fun t => t.main.a == 0x00 && t.main.f == 0x42 && t.pc == 0x0101 && t.cycles == 4) = true := by decide
/-- spec/95_test_vectors.md V53. -/
theorem test_v53_sub_n : stepGives (start [0xD6, 0x01] [])
    (fun t => t.main.a == 0xFF && t.main.f == 0xBB && t.pc == 0x0102 && t.cycles == 7) = true := by decide
/-- spec/95_test_vectors.md V54. -/
theorem test_v54_sbc_a_b : stepGives { start [0x98] [] with main := { Bank.zero with a := 0x80, f := 0x01 } }
    (fun t => t.main.a == 0x7F && t.main.f == 0x3E && t.pc == 0x0101 && t.cycles == 4) = true := by decide
/-- spec/95_test_vectors.md V55. -/
theorem test_v55_sbc_a_a : stepGives { start [0x9F] [] with main := { Bank.zero with a := 0x33, f := 0x01 } }
    (fun t => t.main.a == 0xFF && t.main.f == 0xBB && t.pc == 0x0101 && t.cycles == 4) = true := by decide
/-- spec/95_test_vectors.md V56. -/
theorem test_v56_and_n : stepGives { start [0xE6, 0x81] [] with main := { Bank.zero with a := 0xFF, f := 0x01 } }
    (fun t => t.main.a == 0x81 && t.main.f == 0x94 && t.pc == 0x0102 && t.cycles == 7) = true := by decide
/-- spec/95_test_vectors.md V57. -/
theorem test_v57_xor_hl : stepGives { start [0xAE] [(0x4000, 0xF0)] with main := { Bank.zero with a := 0x0F, h := 0x40 } }
    (fun t => t.main.a == 0xFF && t.main.f == 0xAC && t.pc == 0x0101 && t.cycles == 7) = true := by decide
/-- spec/95_test_vectors.md V58. -/
theorem test_v58_or_c : stepGives { start [0xB1] [] with main := { Bank.zero with f := 0xFF } }
    (fun t => t.main.f == 0x44 && t.pc == 0x0101 && t.cycles == 4) = true := by decide
/-- spec/95_test_vectors.md V59. -/
theorem test_v59_cp_b : stepGives { start [0xB8] [] with main := { Bank.zero with a := 0x20, b := 0x20 } }
    (fun t => t.main.f == 0x62 && t.pc == 0x0101 && t.cycles == 4) = true := by decide
/-- spec/95_test_vectors.md V60. -/
theorem test_v60_cp_n : stepGives { start [0xFE, 0x08] [] with main := { Bank.zero with a := 0x80 } }
    (fun t => t.main.f == 0x1E && t.pc == 0x0102 && t.cycles == 7) = true := by decide
/-- spec/95_test_vectors.md V61. -/
theorem test_v61_cp_a : stepGives { start [0xBF] [] with main := { Bank.zero with a := 0xFF } }
    (fun t => t.main.f == 0x6A && t.pc == 0x0101 && t.cycles == 4) = true := by decide
/-- spec/95_test_vectors.md V62. -/
theorem test_v62_add_a_ix_d : stepGives { start [0xDD, 0x86, 0x80] [(0x1000, 0x0F)] with main := { Bank.zero with a := 0x01 }, ix := 0x1080 }
    (fun t => t.main.a == 0x10 && t.main.f == 0x10 && t.pc == 0x0103 && t.cycles == 19) = true := by decide
/-- spec/95_test_vectors.md V63. -/
theorem test_v63_sub_iy_d : stepGives { start [0xFD, 0x96, 0x7F] [(0x006F, 0x10)] with main := { Bank.zero with a := 0x10 }, iy := 0xFFF0 }
    (fun t => t.main.a == 0x00 && t.main.f == 0x42 && t.pc == 0x0103 && t.cycles == 19) = true := by decide
/-- spec/95_test_vectors.md V65. -/
theorem test_v65_xor_iyl : stepGives { start [0xFD, 0xAD] [] with main := { Bank.zero with a := 0x55 }, iy := 0x1255 }
    (fun t => t.main.a == 0x00 && t.main.f == 0x44 && t.pc == 0x0102 && t.cycles == 8) = true := by decide
/-- spec/95_test_vectors.md V66. -/
theorem test_v66_inc_b : stepGives { start [0x04] [] with main := { Bank.zero with f := 0x01, b := 0x7F } }
    (fun t => t.main.f == 0x95 && t.main.b == 0x80 && t.pc == 0x0101 && t.cycles == 4) = true := by decide
/-- spec/95_test_vectors.md V68. -/
theorem test_v68_inc_l : stepGives { start [0x2C] [] with main := { Bank.zero with l := 0x0F } }
    (fun t => t.main.f == 0x10 && t.main.l == 0x10 && t.pc == 0x0101 && t.cycles == 4) = true := by decide
/-- spec/95_test_vectors.md V69. -/
theorem test_v69_dec_c : stepGives { start [0x0D] [] with main := { Bank.zero with c := 0x80 } }
    (fun t => t.main.f == 0x3E && t.main.c == 0x7F && t.pc == 0x0101 && t.cycles == 4) = true := by decide
/-- spec/95_test_vectors.md V70. -/
theorem test_v70_dec_a : stepGives { start [0x3D] [] with main := { Bank.zero with f := 0x01 } }
    (fun t => t.main.a == 0xFF && t.main.f == 0xBB && t.pc == 0x0101 && t.cycles == 4) = true := by decide
/-- spec/95_test_vectors.md V71. -/
theorem test_v71_inc_hl : stepGives { start [0x34] [(0xFFFF, 0xFF)] with main := { Bank.zero with h := 0xFF, l := 0xFF } }
    (fun t => t.main.f == 0x50 && Memory.read t.mem 0xFFFF == 0x00 && t.pc == 0x0101 && t.cycles == 11) = true := by decide
/-- spec/95_test_vectors.md V72. -/
theorem test_v72_dec_ix_d : stepGives (start [0xDD, 0x35, 0xFF] [(0xFFFF, 0x01)])
    (fun t => t.main.f == 0x42 && Memory.read t.mem 0xFFFF == 0x00 && t.pc == 0x0103 && t.cycles == 23) = true := by decide
/-- spec/95_test_vectors.md V75. -/
theorem test_v75_daa : stepGives { start [0x27] [] with main := { Bank.zero with a := 0x9A } }
    (fun t => t.main.a == 0x00 && t.main.f == 0x55 && t.pc == 0x0101 && t.cycles == 4) = true := by decide
/-- spec/95_test_vectors.md V76. -/
theorem test_v76_daa : stepGives { start [0x27] [] with main := { Bank.zero with a := 0x2D, f := 0x12 } }
    (fun t => t.main.a == 0x27 && t.main.f == 0x26 && t.pc == 0x0101 && t.cycles == 4) = true := by decide
/-- spec/95_test_vectors.md V79. -/
theorem test_v79_cpl : stepGives { start [0x2F] [] with main := { Bank.zero with f := 0x41 } }
    (fun t => t.main.a == 0xFF && t.main.f == 0x7B && t.pc == 0x0101 && t.cycles == 4) = true := by decide
/-- spec/95_test_vectors.md V80. -/
theorem test_v80_neg : stepGives { start [0xED, 0x44] [] with main := { Bank.zero with a := 0x80 } }
    (fun t => t.main.f == 0x87 && t.pc == 0x0102 && t.cycles == 8) = true := by decide
/-- spec/95_test_vectors.md V82. -/
theorem test_v82_neg_mirror_ed_4c : stepGives { start [0xED, 0x4C] [] with main := { Bank.zero with a := 0x01 } }
    (fun t => t.main.a == 0xFF && t.main.f == 0xBB && t.pc == 0x0102 && t.cycles == 8) = true := by decide
/-- spec/95_test_vectors.md V83. -/
theorem test_v83_ccf : stepGives (start [0x3F] [])
    (fun t => t.main.f == 0x01 && t.pc == 0x0101 && t.cycles == 4) = true := by decide
/-- spec/95_test_vectors.md V84. -/
theorem test_v84_scf : stepGives { start [0x37] [] with main := { Bank.zero with a := 0xFF, f := 0x52 } }
    (fun t => t.main.f == 0x69 && t.pc == 0x0101 && t.cycles == 4) = true := by decide
/-- spec/95_test_vectors.md V85. -/
theorem test_v85_di : stepGives { start [0xF3] [] with iff1 := true, iff2 := true }
    (fun t => t.main.f == 0x00 && !t.iff1 && !t.iff2 && t.pc == 0x0101 && t.cycles == 4) = true := by decide
/-- spec/95_test_vectors.md V86. -/
theorem test_v86_ei : stepGives (start [0xFB] [])
    (fun t => t.main.f == 0x00 && t.iff1 && t.iff2 && t.intInhibit == .afterEi && t.pc == 0x0101 && t.cycles == 4) = true := by decide
/-- spec/95_test_vectors.md V87. -/
theorem test_v87_im_2 : stepGives (start [0xED, 0x5E] [])
    (fun t => t.main.f == 0x00 && t.im == .im2 && t.pc == 0x0102 && t.cycles == 8) = true := by decide
/-- spec/95_test_vectors.md V88. -/
theorem test_v88_im_0_mirror_ed_6e : stepGives { start [0xED, 0x6E] [] with im := .im2 }
    (fun t => t.main.f == 0x00 && t.im == .im0 && t.pc == 0x0102 && t.cycles == 8) = true := by decide
/-- spec/95_test_vectors.md V89. -/
theorem test_v89_halt : stepGives (start [0x76] [])
    (fun t => t.main.f == 0x00 && t.halted && t.pc == 0x0101 && t.cycles == 4) = true := by decide
/-- spec/95_test_vectors.md V93. -/
theorem test_v93_adc_hl_hl : stepGives { start [0xED, 0x6A] [] with main := { Bank.zero with h := 0x80 } }
    (fun t => t.main.f == 0x45 && t.main.h == 0x00 && t.pc == 0x0102 && t.cycles == 15) = true := by decide
/-- spec/95_test_vectors.md V95. -/
theorem test_v95_sbc_hl_hl : stepGives { start [0xED, 0x62] [] with main := { Bank.zero with f := 0x01, h := 0x12, l := 0x34 } }
    (fun t => t.main.f == 0xBB && t.main.h == 0xFF && t.main.l == 0xFF && t.pc == 0x0102 && t.cycles == 15) = true := by decide
/-- spec/95_test_vectors.md V103. -/
theorem test_v103_rlca : stepGives { start [0x07] [] with main := { Bank.zero with a := 0x80, f := 0xC4 } }
    (fun t => t.main.a == 0x01 && t.main.f == 0xC5 && t.pc == 0x0101 && t.cycles == 4) = true := by decide
/-- spec/95_test_vectors.md V104. -/
theorem test_v104_rrca : stepGives { start [0x0F] [] with main := { Bank.zero with a := 0x02 } }
    (fun t => t.main.a == 0x01 && t.main.f == 0x00 && t.pc == 0x0101 && t.cycles == 4) = true := by decide
/-- spec/95_test_vectors.md V105. -/
theorem test_v105_rla : stepGives { start [0x17] [] with main := { Bank.zero with a := 0x80 } }
    (fun t => t.main.a == 0x00 && t.main.f == 0x01 && t.pc == 0x0101 && t.cycles == 4) = true := by decide
/-- spec/95_test_vectors.md V106. -/
theorem test_v106_rra : stepGives { start [0x1F] [] with main := { Bank.zero with f := 0x01 } }
    (fun t => t.main.a == 0x80 && t.main.f == 0x00 && t.pc == 0x0101 && t.cycles == 4) = true := by decide
/-- spec/95_test_vectors.md V107. -/
theorem test_v107_rlc_b : stepGives (start [0xCB, 0x00] [])
    (fun t => t.main.f == 0x44 && t.pc == 0x0102 && t.cycles == 8) = true := by decide
/-- spec/95_test_vectors.md V108. -/
theorem test_v108_rrc_b : stepGives { start [0xCB, 0x08] [] with main := { Bank.zero with b := 0x81 } }
    (fun t => t.main.f == 0x85 && t.main.b == 0xC0 && t.pc == 0x0102 && t.cycles == 8) = true := by decide
/-- spec/95_test_vectors.md V109. -/
theorem test_v109_rl_b : stepGives { start [0xCB, 0x10] [] with main := { Bank.zero with b := 0x80 } }
    (fun t => t.main.f == 0x45 && t.main.b == 0x00 && t.pc == 0x0102 && t.cycles == 8) = true := by decide
/-- spec/95_test_vectors.md V110. -/
theorem test_v110_rr_b : stepGives { start [0xCB, 0x18] [] with main := { Bank.zero with b := 0x01 } }
    (fun t => t.main.f == 0x45 && t.main.b == 0x00 && t.pc == 0x0102 && t.cycles == 8) = true := by decide
/-- spec/95_test_vectors.md V111. -/
theorem test_v111_sla_b : stepGives { start [0xCB, 0x20] [] with main := { Bank.zero with b := 0xFF } }
    (fun t => t.main.f == 0xA9 && t.main.b == 0xFE && t.pc == 0x0102 && t.cycles == 8) = true := by decide
/-- spec/95_test_vectors.md V112. -/
theorem test_v112_sra_b : stepGives { start [0xCB, 0x28] [] with main := { Bank.zero with b := 0x80 } }
    (fun t => t.main.f == 0x84 && t.main.b == 0xC0 && t.pc == 0x0102 && t.cycles == 8) = true := by decide
/-- spec/95_test_vectors.md V113. -/
theorem test_v113_sll_b : stepGives (start [0xCB, 0x30] [])
    (fun t => t.main.f == 0x00 && t.main.b == 0x01 && t.pc == 0x0102 && t.cycles == 8) = true := by decide
/-- spec/95_test_vectors.md V114. -/
theorem test_v114_srl_b : stepGives { start [0xCB, 0x38] [] with main := { Bank.zero with b := 0x80 } }
    (fun t => t.main.f == 0x00 && t.main.b == 0x40 && t.pc == 0x0102 && t.cycles == 8) = true := by decide
/-- spec/95_test_vectors.md V115. -/
theorem test_v115_rl_hl : stepGives { start [0xCB, 0x16] [(0x4000, 0x7F)] with main := { Bank.zero with f := 0x01, h := 0x40 } }
    (fun t => t.main.f == 0xAC && Memory.read t.mem 0x4000 == 0xFF && t.pc == 0x0102 && t.cycles == 15) = true := by decide
/-- spec/95_test_vectors.md V116. -/
theorem test_v116_sra_ix_d : stepGives { start [0xDD, 0xCB, 0x05, 0x2E] [(0x4005, 0xFE)] with ix := 0x4000 }
    (fun t => t.main.f == 0xAC && Memory.read t.mem 0x4005 == 0xFF && t.pc == 0x0104 && t.cycles == 23) = true := by decide
/-- spec/95_test_vectors.md V117. -/
theorem test_v117_rlc_iy_d_c_ddcb_copy_form : stepGives { start [0xFD, 0xCB, 0x00, 0x01] [(0x4000, 0x80)] with iy := 0x4000 }
    (fun t => t.main.f == 0x01 && t.main.c == 0x01 && Memory.read t.mem 0x4000 == 0x01 && t.pc == 0x0104 && t.cycles == 23) = true := by decide
/-- spec/95_test_vectors.md V118. -/
theorem test_v118_bit_7_hl : stepGives { start [0xCB, 0x7E] [(0x4000, 0x80)] with main := { Bank.zero with h := 0x40 } }
    (fun t => t.pc == 0x0102 && t.cycles == 12) = true := by decide
/-- spec/95_test_vectors.md V119. -/
theorem test_v119_bit_5_l : stepGives { start [0xCB, 0x6D] [] with main := { Bank.zero with f := 0x01, l := 0x28 } }
    (fun t => t.main.f == 0x39 && t.pc == 0x0102 && t.cycles == 8) = true := by decide
/-- spec/95_test_vectors.md V120. -/
theorem test_v120_bit_3_iy_d : stepGives { start [0xFD, 0xCB, 0x10, 0x5E] [(0x2800, 0x00)] with iy := 0x27F0 }
    (fun t => t.main.f == 0x7C && t.pc == 0x0104 && t.cycles == 20) = true := by decide
/-- spec/95_test_vectors.md V121. -/
theorem test_v121_res_7_hl : stepGives { start [0xCB, 0xBE] [(0x4000, 0xFF)] with main := { Bank.zero with f := 0xFF, h := 0x40 } }
    (fun t => t.main.f == 0xFF && Memory.read t.mem 0x4000 == 0x7F && t.pc == 0x0102 && t.cycles == 15) = true := by decide
/-- spec/95_test_vectors.md V122. -/
theorem test_v122_set_0_ix_d_a_copy_form : stepGives { start [0xDD, 0xCB, 0xFF, 0xC7] [(0x4000, 0x10)] with ix := 0x4001 }
    (fun t => t.main.a == 0x11 && t.main.f == 0x00 && Memory.read t.mem 0x4000 == 0x11 && t.pc == 0x0104 && t.cycles == 23) = true := by decide
/-- spec/95_test_vectors.md V123. -/
theorem test_v123_set_4_h : stepGives (start [0xCB, 0xE4] [])
    (fun t => t.main.f == 0x00 && t.main.h == 0x10 && t.pc == 0x0102 && t.cycles == 8) = true := by decide
/-- spec/95_test_vectors.md V124. -/
theorem test_v124_rld : stepGives { start [0xED, 0x6F] [(0x5000, 0x00)] with main := { Bank.zero with h := 0x50 } }
    (fun t => t.main.f == 0x44 && Memory.read t.mem 0x5000 == 0x00 && t.pc == 0x0102 && t.cycles == 18) = true := by decide
/-- spec/95_test_vectors.md V125. -/
theorem test_v125_rrd : stepGives { start [0xED, 0x67] [(0x5000, 0x0F)] with main := { Bank.zero with a := 0xFF, f := 0x01, h := 0x50 } }
    (fun t => t.main.f == 0xAD && Memory.read t.mem 0x5000 == 0xF0 && t.pc == 0x0102 && t.cycles == 18) = true := by decide
/-- spec/95_test_vectors.md V126. -/
theorem test_v126_jp_nz_0x2000_with_z_1 : stepGives { start [0xC2, 0x00, 0x20] [] with main := { Bank.zero with f := 0x40 } }
    (fun t => t.main.f == 0x40 && t.pc == 0x0103 && t.cycles == 10) = true := by decide
/-- spec/95_test_vectors.md V127. -/
theorem test_v127_jp_z_0x2000_with_z_1 : stepGives { start [0xCA, 0x00, 0x20] [] with main := { Bank.zero with f := 0x40 } }
    (fun t => t.main.f == 0x40 && t.pc == 0x2000 && t.cycles == 10) = true := by decide
/-- spec/95_test_vectors.md V128. -/
theorem test_v128_jp_nc_0x2000_with_c_1 : stepGives { start [0xD2, 0x00, 0x20] [] with main := { Bank.zero with f := 0x01 } }
    (fun t => t.main.f == 0x01 && t.pc == 0x0103 && t.cycles == 10) = true := by decide
/-- spec/95_test_vectors.md V134. -/
theorem test_v134_jr_128 : stepGives (start [0x18, 0x80] [])
    (fun t => t.main.f == 0x00 && t.pc == 0x0082 && t.cycles == 12) = true := by decide
/-- spec/95_test_vectors.md V136. -/
theorem test_v136_jr_nz_e_not_taken : stepGives { start [0x20, 0x10] [] with main := { Bank.zero with f := 0x40 } }
    (fun t => t.main.f == 0x40 && t.pc == 0x0102 && t.cycles == 7) = true := by decide
/-- spec/95_test_vectors.md V137. -/
theorem test_v137_djnz_with_b_0 : stepGives (start [0x10, 0xFE] [])
    (fun t => t.main.f == 0x00 && t.main.b == 0xFF && t.pc == 0x0100 && t.cycles == 13) = true := by decide
/-- spec/95_test_vectors.md V139. -/
theorem test_v139_call_nc_nn_taken : stepGives { start [0xD4, 0x00, 0x30] [] with sp := 0x0000 }
    (fun t => t.main.f == 0x00 && t.sp == 0xFFFE && Memory.read t.mem 0xFFFE == 0x03 && Memory.read t.mem 0xFFFF == 0x01 && t.pc == 0x3000 && t.cycles == 17) = true := by decide
/-- spec/95_test_vectors.md V140. -/
theorem test_v140_ret_z_taken : stepGives { start [0xC8] [(0x7FFE, 0x00), (0x7FFF, 0x20)] with main := { Bank.zero with f := 0x40 }, sp := 0x7FFE }
    (fun t => t.main.f == 0x40 && t.sp == 0x8000 && t.pc == 0x2000 && t.cycles == 11) = true := by decide
/-- spec/95_test_vectors.md V141. -/
theorem test_v141_ret_pe_not_taken : stepGives { start [0xE8] [] with sp := 0x7FFE }
    (fun t => t.main.f == 0x00 && t.pc == 0x0101 && t.cycles == 5) = true := by decide
/-- spec/95_test_vectors.md V142. -/
theorem test_v142_retn : stepGives { start [0xED, 0x45] [(0x7FFE, 0x34), (0x7FFF, 0x12)] with sp := 0x7FFE }
    (fun t => t.main.f == 0x00 && t.sp == 0x8000 && t.pc == 0x1234 && t.cycles == 14) = true := by decide
/-- spec/95_test_vectors.md V143. -/
theorem test_v143_rst_0x38 : stepGives (start [0xFF] [])
    (fun t => t.main.f == 0x00 && t.sp == 0x7FFE && Memory.read t.mem 0x7FFE == 0x01 && Memory.read t.mem 0x7FFF == 0x01 && t.pc == 0x0038 && t.cycles == 11) = true := by decide
/-- spec/95_test_vectors.md V147. -/
theorem test_v147_out_n_a : stepGives { start [0xD3, 0xFF] [] with main := { Bank.zero with a := 0x55 } }
    (fun t => t.main.f == 0x00 && t.events.head? == some (.portWrite 0xFF 0x55) && t.pc == 0x0102 && t.cycles == 11) = true := by decide
/-- spec/95_test_vectors.md V148. -/
theorem test_v148_out_c_a : stepGives { start [0xED, 0x79] [] with main := { Bank.zero with a := 0x66, c := 0x44 } }
    (fun t => t.main.f == 0x00 && t.events.head? == some (.portWrite 0x44 0x66) && t.pc == 0x0102 && t.cycles == 12) = true := by decide
/-- spec/95_test_vectors.md V152. -/
theorem test_v152_outi_with_b_0 : stepGives { start [0xED, 0xA3] [(0x4000, 0x5A)] with main := { Bank.zero with c := 0x20, h := 0x40 } }
    (fun t => t.main.b == 0xFF && t.main.l == 0x01 && t.events.head? == some (.portWrite 0x20 0x5A) && t.pc == 0x0102 && t.cycles == 16) = true := by decide
/-- spec/95_test_vectors.md V153. -/
theorem test_v153_int_mode_1_at_a_boundary : stepGives { start [0x00] [] with iff1 := true, iff2 := true, im := .im1, intReq := true }
    (fun t => t.main.f == 0x00 && t.sp == 0x7FFE && t.r == 0x01 && !t.iff1 && !t.iff2 && Memory.read t.mem 0x7FFE == 0x00 && Memory.read t.mem 0x7FFF == 0x01 && t.pc == 0x0038 && t.cycles == 13) = true := by decide
/-- spec/95_test_vectors.md V154. -/
theorem test_v154_int_mode_0_bus_byte_0xd7 : stepGives { start [0x00] [] with iff1 := true, iff2 := true, intReq := true, busByte := 0xD7 }
    (fun t => t.main.f == 0x00 && t.sp == 0x7FFE && t.r == 0x01 && !t.iff1 && !t.iff2 && Memory.read t.mem 0x7FFE == 0x00 && Memory.read t.mem 0x7FFF == 0x01 && t.pc == 0x0010 && t.cycles == 13) = true := by decide
/-- spec/95_test_vectors.md V155. -/
theorem test_v155_int_mode_2 : stepGives { start [0x00] [(0x40FF, 0x00), (0x4100, 0x50)] with i := 0x40, iff1 := true, iff2 := true, im := .im2, intReq := true }
    (fun t => t.main.f == 0x00 && t.sp == 0x7FFE && t.r == 0x01 && !t.iff1 && !t.iff2 && Memory.read t.mem 0x7FFE == 0x00 && Memory.read t.mem 0x7FFF == 0x01 && t.pc == 0x5000 && t.cycles == 19) = true := by decide
/-- spec/95_test_vectors.md V156. -/
theorem test_v156_int_with_iff1_0 : stepGives { start [0x00] [] with im := .im1, intReq := true }
    (fun t => t.main.f == 0x00 && t.r == 0x01 && t.pc == 0x0101 && t.cycles == 4) = true := by decide
/-- spec/95_test_vectors.md V159. -/
theorem test_v159_nmi_during_di : stepGives { start [0x00] [] with nmiReq := true }
    (fun t => t.main.f == 0x00 && t.sp == 0x7FFE && t.r == 0x01 && Memory.read t.mem 0x7FFE == 0x00 && Memory.read t.mem 0x7FFF == 0x01 && t.pc == 0x0066 && t.cycles == 11) = true := by decide

/-! ## What the vectors leave: the parameters that are not at their default -/

/-- R139, D5: FALLBACK_R = silicon counts the wasted prefix once (V12's first step). -/
theorem test_wasted_prefix_silicon :
    stepGives { start [0xDD, 0x00] [] with params := { State.reset.params with fallbackR := .silicon } } (fun t => t.r == 0x01 && t.pc == 0x0101) = true := by decide
/-- R304, D7: UNDOC_XYCB = refuse. -/
theorem test_copy_form_refused :
    step { start [0xDD, 0xCB, 0x00, 0x00] [] with params := { State.reset.params with undocXYCB := .refused } } = .refused .undocXYCBRefused := rfl
/-- R406, D18: a mode-0 acceptance of a byte that is no RST opcode. -/
theorem test_mode0_other_byte : step { start [0x00] [] with iff1 := true, iff2 := true, intReq := true, busByte := 0xCD } = .refused .modeZeroBusByte := rfl
/-- D28: a write to an address that is not plain RAM leaves memory as it was. -/
theorem test_non_ram_write :
    stepGives { start [0x32, 0x00, 0xF0] [] with params := { State.reset.params with nonRam := [⟨0xF000, 0x1000⟩] }, main := { Bank.zero with a := 0x55 } }
      (fun t => Memory.read t.mem 0xF000 == 0x00 && t.pc == 0x0103) = true := by decide

/-! ## Witnesses: a state and operands that meet the hypotheses of each statement -/

/-- The start state with interrupts enabled and requested. -/
def intState (m : IntMode) (b : Byte) : State := { start [0x00] [] with iff1 := true, iff2 := true, im := m, intReq := true, busByte := b }

theorem witness_DecodeOfEncode : (Instr.retn .o7).wf = true ∧ followedBy (.retn .o7) [] = true ∧
    Instr.wastedDD.wf = true ∧ followedBy .wastedDD [0xDD] = true := by decide
theorem witness_EncodeOfDecode : decode [0xFD, 0xCB, 0x80, 0xFF, 0x00] = .ok (.setBIYdR .o7 0x80 .a, [0x00]) := by decide
theorem witness_WastedPrefixBytes : decode4 0xDD 0xDD 0x21 0x00 = .wastedDD ∧ decode4 0xFD 0x00 0x00 0x00 = .wastedFD := by decide
theorem witness_UnsupportedEdBytes : form (decode4 0xED 0x3F 0 0) = .hook ∧ form (decode4 0xED 0xC0 0 0) = .hook := by decide
theorem witness_LengthFromFirstBytes : 4 ≤ ([0, 0, 0, 0] : List Byte).length := by decide
theorem witness_StepRunsTheDecodedInstruction :
    let s := start [0x78] []
    let u := s.sample.clearInhibit
    boundary s.sample = .run ∧ s.halted = false ∧
      decode [u.memRead .fetch0 u.pc, u.memRead .fetch1 (u.pc + 1), u.memRead .fetch2 (u.pc + 2), u.memRead .fetch3 (u.pc + 3)] =
        .ok (.ldRR .a .b, [0x00, 0x00, 0x00]) := by decide
theorem witness_StoredBytesAreFetched :
    let s := { State.reset with pc := 0xFFFE }
    s.mem.wf = true ∧ s.isRam s.pc = true ∧ s.isRam (s.pc + 1) = true ∧ s.isRam (s.pc + 2) = true ∧ s.isRam (s.pc + 3) = true := by decide
theorem witness_EveryInstructionCompletes : State.reset.params.undocXYCB = .admitted := rfl
theorem witness_TstatesFollowTheTable : (∃ t, exec (.djnz 0x00) State.reset = .next t) ∧ taken (.djnz 0x00) State.reset = true := ⟨⟨_, rfl⟩, by decide⟩
theorem witness_RegisterFrame : (∃ t, exec .cpi State.reset = .next t) ∧ Item.flagC ∉ writes .cpi ∧ Item.reg .a ∉ writes .cpi := ⟨⟨_, rfl⟩, by decide, by decide⟩
theorem witness_MemoryFrame : (∃ t, exec (.pushQq .bc) { State.reset with sp := 0x0001 } = .next t) ∧
    (0x0001 : Word) ∉ storeAddrs (.pushQq .bc) { State.reset with sp := 0x0001 } ∧ storeAddrs .nop State.reset = [] := ⟨⟨_, rfl⟩, by decide, rfl⟩
theorem witness_HostSideKept : ∃ t, exec .halt State.reset = .next t := ⟨_, rfl⟩
theorem witness_ShadowBankIsolated : Instr.exDEHL ≠ .exAFAF ∧ Instr.exDEHL ≠ .exx := by decide
theorem witness_IndexRegistersIsolated : firstByte (.ldIYNn 0) ≠ 0xDD ∧ firstByte (.ldIXNn 0) ≠ 0xFD ∧ firstByte .jpHL ≠ 0xDD := by decide
theorem witness_ControlRegistersIsolated : Instr.ldRA ≠ .ldAI ∧ Instr.ldRA ≠ .ldIA ∧ Item.im ∉ writes .ldAI ∧ Item.im ∈ writes (.im2 .o7) ∧
    Item.iff1 ∉ writes .ldAI ∧ Item.iff1 ∈ writes (.retn .o7) ∧ Instr.nop ≠ .halt := by decide
theorem witness_ProgramCounterAdvances : form (.ldRN .b 0) ≠ .branch ∧ (∃ t, exec (.ldRN .b 0) (fetched (.ldRN .b 0) State.reset) = .next t) ∧
    form .ldir ≠ .branch ∧ (∃ t, exec .ldir (fetched .ldir State.reset) = .next t) ∧ form .ldir = .repeating ∧ taken .ldir (fetched .ldir State.reset) = true :=
  ⟨by decide, ⟨_, rfl⟩, by decide, ⟨_, rfl⟩, by decide, by decide⟩
theorem witness_RefreshCounts : (∃ t, exec .wastedDD (fetched .wastedDD State.reset) = .next t) ∧ (∃ t, exec .ldAR (fetched .ldAR State.reset) = .next t) ∧
    boundary ({ State.reset with halted := true }).sample = .run ∧ boundary ({ State.reset with nmiReq := true }).sample ≠ .run :=
  ⟨⟨_, rfl⟩, ⟨_, rfl⟩, by decide, by decide⟩
theorem witness_RefreshCounts_steps : (∃ t, step { State.reset with halted := true } = .next t) ∧ (∃ t, step { State.reset with nmiReq := true } = .next t) :=
  ⟨⟨_, rfl⟩, ⟨_, rfl⟩⟩
theorem witness_BoundaryPriority : ({ State.reset with intInhibit := .afterPrefix, nmiReq := true } : State).intInhibit = .afterPrefix ∧
    boundary ({ intState .im1 0xFF with nmiReq := true, intInhibit := .afterEi }).sample = .nmi ∧ boundary (intState .im1 0xFF).sample = .int ∧
    (intState .im1 0xFF).intInhibit ≠ .afterPrefix ∧ (intState .im1 0xFF).nmiReq = false := by decide
theorem witness_NmiEntry : boundary ({ State.reset with nmiReq := true }).sample = .nmi := by decide
theorem witness_MaskableEntry :
    (boundary (intState .im0 0xFF).sample = .int ∧ (intState .im0 0xFF).sample.busByte &&& 0xC7 = 0xC7) ∧
    (boundary (intState .im0 0xC7).sample = .int ∧ (intState .im0 0xC7).sample.busByte &&& 0xC7 = 0xC7) ∧
    (boundary (intState .im0 0xC6).sample = .int ∧ (intState .im0 0xC6).sample.busByte &&& 0xC7 ≠ 0xC7) ∧
    boundary (intState .im1 0xFF).sample = .int ∧ boundary (intState .im2 0xFF).sample = .int := by decide
theorem witness_EiDelaysMaskable :
    let t := { start [0x00] [] with iff1 := true, iff2 := true, intInhibit := .afterEi, intReq := true }.done ⟨false, false, false, true⟩ 4
    t.sample.nmiReq = false ∧ decodeAt t.sample.clearInhibit = .nop ∧ stepGives t (fun u => u.intInhibit == .none) = true := by decide
theorem witness_ReturnAfterAcceptance :
    let s := { intState .im1 0xFF with sp := 0x0001 }
    s.mem.wf = true ∧ s.isRam (s.sp - 1) = true ∧ s.isRam (s.sp - 2) = true ∧ s.iff2 = s.iff1 := by decide
theorem witness_ReturnAfterAcceptance_int : (intState .im2 0xFF).mem.wf = true ∧ (intState .im2 0xFF).isRam ((intState .im2 0xFF).sp - 1) = true ∧
    (intState .im2 0xFF).isRam ((intState .im2 0xFF).sp - 2) = true ∧ ∃ t, acceptInt (intState .im2 0xFF) = .next t := ⟨by decide, by decide, by decide, _, rfl⟩
theorem witness_HaltCycles : ({ State.reset with halted := true } : State).halted = true ∧ boundary ({ State.reset with halted := true }).sample = .run := by decide
theorem witness_HaltedForever : ({ State.reset with halted := true } : State).stopped = true ∧ State.reset.nmiReq = false ∧
    quietInputs [⟨false, true, 0xFF⟩] := ⟨by decide, rfl, by intro x hx; simp only [List.mem_singleton] at hx; subst hx; rfl⟩
theorem witness_HaltedForever_run : runUntil State.stopped 3 (start [0x00, 0x76] []) =
      Host.Core.run Sys2Proof.core 2 (start [0x00, 0x76] []) ∧
    (∃ t, runUntil State.stopped 3 (start [0x00, 0x76] []) = .next t) ∧ (start [0x00, 0x76] []).stopped = false :=
  ⟨rfl, ⟨_, rfl⟩, by decide⟩
theorem witness_InvariantKept : State.reset.mem.wf = true ∧ (State.reset.iff1 = true → State.reset.iff2 = true) ∧
    (State.reset.halted = true → State.reset.intInhibit = .none) ∧ stepGives State.reset (fun _ => true) = true := by decide
theorem witness_OperandsReadBack : State.reset.mem.wf = true ∧ State.reset.isRam (State.reset.addr (.idx .ix 0x80)) = true := by decide
theorem witness_Load8Copies : form (.ldIYdN 0x80 0xFF) = .load8 (.mem (.idx .iy 0x80)) (.imm 0xFF) ∧ form .ldIXHIXL = .load8 (.half .ix .high) (.loc (.half .ix .low)) := by decide
theorem witness_ControlRegisterLoads : Instr.ldIA ≠ .ldRA ∧ ∃ t, exec .ldIA (fetched .ldIA State.reset) = .next t := ⟨by decide, ⟨_, rfl⟩⟩
theorem witness_Load16Registers : (0x1234 : Word) = word ((start [] [(0xFFFF, 0x34), (0x0000, 0x12)]).memRead .data1 (0xFFFF + 1))
    ((start [] [(0xFFFF, 0x34), (0x0000, 0x12)]).memRead .data0 0xFFFF) := by decide
theorem witness_Store16LittleEndian : State.reset.mem.wf = true ∧ State.reset.isRam 0xFFFF = true ∧ State.reset.isRam (0xFFFF + 1) = true ∧
    State.reset.sp = State.reset.get16 (pairReg .sp) := by decide
theorem witness_PushAndPop : Reg16.af = stackReg .af ∧ Reg16.bc = stackReg .bc := by decide
theorem witness_StackRoundTrips : ({ State.reset with sp := 0x0001 } : State).mem.wf = true ∧ ({ State.reset with sp := 0x0001 } : State).isRam (0x0001 - 1) = true ∧
    ({ State.reset with sp := 0x0001 } : State).isRam (0x0001 - 2) = true := by decide
theorem witness_ExchangesSwap : ∃ t u, exec .exAFAF State.reset = .next t ∧ exec .exAFAF t = .next u := ⟨_, _, rfl, rfl⟩
theorem witness_ExchangeWithStack : State.reset.mem.wf = true ∧ ({ State.reset with sp := 0xFFFF } : State).isRam 0xFFFF = true ∧
    ({ State.reset with sp := 0xFFFF } : State).isRam (0xFFFF + 1) = true := by decide
theorem witness_BlockTransfer : State.reset.mem.wf = true ∧ State.reset.isRam State.reset.main.de = true ∧ State.reset.main.bc ≠ 1 := by decide
theorem witness_BlockSearch :
    (0x00 : Byte) = State.reset.memRead .data0 State.reset.main.hl ∧ (0x00 : Byte) = State.reset.main.a - 0x00 ∧
      false = decide (State.reset.main.a.toNat % 16 < (0x00 : Byte).toNat % 16) ∧ false = (true && State.reset.main.bc != 1 && State.reset.main.a != 0x00) := by decide
theorem witness_BlockInput : (0xFF : Byte) = State.reset.main.b - 1 ∧ State.reset.mem.wf = true ∧ State.reset.isRam State.reset.main.hl = true := by decide
theorem witness_BlockOutput : (0x00 : Byte) = ({ State.reset with main := { Bank.zero with b := 1 } } : State).main.b - 1 := by decide
theorem witness_RepeatCount :
    (65536 = (if State.reset.main.bc = 0 then 65536 else State.reset.main.bc.toNat)) ∧ 65536 ≤ 65536 ∧
    (256 = (if State.reset.main.b = 0 then 256 else State.reset.main.b.toNat)) ∧
    (1 = (if ({ Bank.zero with b := 1 } : Bank).b = 0 then 256 else ({ Bank.zero with b := 1 } : Bank).b.toNat)) := by decide
theorem witness_AluForms : form (.cpIYd 0x7F) = .alu .cp (.loc (.mem (.idx .iy 0x7F))) ∧ form (.adcAN 0xFF) = .alu .adc (.imm 0xFF) ∧
    form (.andN 0x0F) = .alu .and (.imm 0x0F) ∧ (0xFF : Byte) = State.reset.src8 (.imm 0xFF) ∧ false = State.reset.flags.c := by decide
theorem witness_IncDecForms : form .decIXL = .incDec .dec (.half .ix .low) ∧ (0x00 : Byte) = State.reset.get8 (.half .ix .low) := by decide
theorem witness_AccumulatorOperations :
    let s := { State.reset with main := { Bank.zero with a := 0x9A } }
    (0x66 : Byte) = (if s.flags.h || decide (s.main.a.toNat % 16 > 9) then 0x06 else 0x00) ||| (if s.flags.c || decide (s.main.a.toNat > 0x99) then 0x60 else 0x00) ∧
      (0x00 : Byte) = (if s.flags.n then s.main.a - 0x66 else s.main.a + 0x66) ∧ (0x65 : Byte) = s.main.a ^^^ 0xFF := by decide
theorem witness_DaaIsDecimal : 0 < 100 ∧ 99 < 100 ∧ (0x9A + 0x99, bcd 99) = (0x133, (0x99 : Byte)) := by decide
theorem witness_ControlInstructions : (0x6E : Byte) ∈ ([0x46, 0x4E, 0x66, 0x6E] : List Byte) ∧ (0x76 : Byte) ∈ ([0x56, 0x76] : List Byte) := by decide
theorem witness_FallbackForms : form (.unsupportedED00 0x3F) = .hook ∧ form (.unsupportedED80 0x80) = .hook ∧ form (.unsupportedEDA4 0xA4) = .hook ∧
    form (.unsupportedEDC0 0xFF) = .hook ∧ State.reset.params.fallbackR = .source := by decide
theorem witness_Arithmetic16 :
    (0x8000 : Word) = ({ State.reset with ix := 0x8000 } : State).get16 (idxPairReg .xy .ix) ∧ (0x0000 : Word) = BitVec.ofNat 16 (0x8000 + 0x8000) ∧
    (0xFFFF : Word) = BitVec.ofInt 16 ((0 : Int) - 0 - 1) := by decide
theorem witness_RotateForms : form (.sllIXd 0x80) = .rot .sll (.mem (.idx .ix 0x80)) ∧ form (.rrR .a) = .rot .rr (.reg .a) ∧
    (0x01 : Byte) = rotByte .sll 0x00 false := by decide
theorem witness_BitForms : (0x80 : Byte) = (start [] [(0xFFFF, 0x80)]).memRead .data0 ((start [] [(0xFFFF, 0x80)]).idx .iy + sext8 0xFF) := by decide
theorem witness_ResAndSetForms : form (.setBR .o7 .a) = .resSet true .o7 (.reg .a) ∧ form (.resBIYd .o0 0x7F) = .resSet false .o0 (.mem (.idx .iy 0x7F)) := by decide
theorem witness_RegisterCopyForms : form (.rlcIXdR 0x80 .b) = .rotCopy .rlc .ix 0x80 .b ∧ form (.setBIYdR .o7 0x7F .a) = .resSetCopy true .o7 .iy 0x7F .a ∧
    State.reset.params.undocXYCB = .admitted ∧ ({ State.reset.params with undocXYCB := .refused } : Config.Params).undocXYCB = .refused := by decide
theorem witness_NibbleRotates : (0x12 : Byte) = (start [] [(0x0000, 0x12)]).memRead .data0 (start [] [(0x0000, 0x12)]).main.hl ∧
    (0x20 : Byte).toNat = (0x12 : Byte).toNat % 16 * 16 + (0x00 : Byte).toNat % 16 ∧ (0x01 : Byte).toNat = (0x00 : Byte).toNat / 16 * 16 + (0x12 : Byte).toNat / 16 := by decide
theorem witness_JumpForms : (1 : Byte) = ({ Bank.zero with b := 1 } : Bank).b := by decide
theorem witness_CallAndReturnForms : condHolds .nz State.reset.flags = true ∧ condHolds .z State.reset.flags = false ∧
    (0x0038 : Word) = BitVec.ofNat 16 (8 * Oct.o7.toNat) := by decide

end Sys2Proof.Tests
end

section
/-! PROOFS. Halt cycles, runs under STOP, and displacements (spec/00_scope.md R8, R11). -/

namespace Sys2Proof.Machine

/-! ## Runs -/

/-- A run whose first step answers a next state goes on from there. -/
theorem run_succ_of_step {s t : State} (h : step s = .next t) (n : Nat) :
    Host.Core.run Sys2Proof.core (n + 1) s = Host.Core.run Sys2Proof.core n t := by
  have hcore : Sys2Proof.core.step s = .next t := h
  simp only [Host.Core.run, hcore]

/-- How a run under STOP of at least one step can end: at once, where STOP holds, or after a step from where it does not. -/
theorem runUntil_succ_cases {stop : State → Bool} {n : Nat} {s t : State} (h : runUntil stop (n + 1) s = .next t) :
    (stop s = true ∧ s = t) ∨ (stop s = false ∧ ∃ u, step s = .next u ∧ runUntil stop n u = .next t) := by
  cases hstop : stop s with
  | true =>
    rw [runUntil_of_stop hstop] at h
    exact .inl ⟨rfl, Host.Outcome.next.inj h⟩
  | false =>
    cases hstep : step s with
    | next u => exact .inr ⟨rfl, u, rfl, (runUntil_of_step hstop hstep n).symm.trans h⟩
    | fault e => cases e
    | refused e => simp [runUntil, hstop, hstep] at h

/-- `k` steps from `s` lead to `t`, and STOP holds at no step boundary before it. -/
def RunsClearOf (stop : State → Bool) (k : Nat) (s t : State) : Prop :=
  Host.Core.run Sys2Proof.core k s = .next t ∧
    ∀ (j : Nat) (u : State), j < k → Host.Core.run Sys2Proof.core j s = .next u → stop u = false

theorem RunsClearOf.refl (stop : State → Bool) (s : State) : RunsClearOf stop 0 s s :=
  ⟨rfl, fun _ _ hj => absurd hj (Nat.not_lt_zero _)⟩

/-- A step from a boundary where STOP does not hold goes in front of such a run. -/
theorem RunsClearOf.cons {stop : State → Bool} {k : Nat} {s u t : State} (hstop : stop s = false) (hstep : step s = .next u)
    (h : RunsClearOf stop k u t) : RunsClearOf stop (k + 1) s t := by
  obtain ⟨hrun, hclear⟩ := h
  refine ⟨(run_succ_of_step hstep k).trans hrun, fun j v hj hv => ?_⟩
  cases j with
  | zero =>
    have hsv : s = v := Host.Outcome.next.inj hv
    exact hsv ▸ hstop
  | succ j => exact hclear j v (by omega) ((run_succ_of_step hstep j).symm.trans hv)

/-- A run under STOP ends at the first step boundary where STOP holds, or after all its steps (R8, D26). -/
theorem runUntil_runsClearOf {stop : State → Bool} {n : Nat} {s t : State} (h : runUntil stop n s = .next t) :
    ∃ k, k ≤ n ∧ (k < n → stop t = true) ∧ RunsClearOf stop k s t := by
  induction n generalizing s with
  | zero =>
    obtain rfl : s = t := Host.Outcome.next.inj h
    exact ⟨0, Nat.le_refl 0, fun h0 => absurd h0 (Nat.lt_irrefl 0), .refl stop s⟩
  | succ n ih =>
    obtain ⟨hstop, rfl⟩ | ⟨hstop, u, hstep, hrest⟩ := runUntil_succ_cases h
    · exact ⟨0, Nat.zero_le _, fun _ => hstop, .refl stop s⟩
    · obtain ⟨k, hk, hend, hclear⟩ := ih hrest
      exact ⟨k + 1, by omega, fun hlt => hend (by omega), hclear.cons hstop hstep⟩

/-! ## Halt cycles -/

@[simp] theorem refreshAdd_zero (r : Byte) : refreshAdd r 0 = r := by
  apply BitVec.eq_of_toNat_eq
  rw [refreshAdd_toNat]
  omega

/-- With the maskable interrupt disabled and no NMI pending, nothing is accepted (R402 to R404). -/
theorem boundary_of_disabled {s : State} (hiff : s.iff1 = false) (hnmi : s.nmiReq = false) : boundary s = .run := by
  simp [boundary, maskableEnabled, hiff, hnmi]

/-- A halted engine that accepts nothing runs a halt cycle (R130). -/
theorem step_of_halted {s : State} (hhalt : s.halted = true) (hb : boundary s.sample = .run) :
    step s = .next (haltCycle s.sample.clearInhibit) := by
  simp [step, runNext, hhalt, hb]

/-- Quiet inputs leave a lowered NMI request lowered. -/
theorem State.sample_nmiReq_of_quiet {s : State} (hnmi : s.nmiReq = false) (hin : quietInputs s.inputs) : s.sample.nmiReq = false := by
  unfold State.sample
  split
  · exact hnmi
  · next x xs he =>
    have hx : x.raiseNmi = false := hin x (by simp [he])
    simp [hnmi, hx]

/-- A step only takes an entry off the inputs. -/
theorem State.quietInputs_sample {s : State} (hin : quietInputs s.inputs) : quietInputs s.sample.inputs := by
  unfold State.sample
  split
  · exact hin
  · next x xs he => exact fun y hy => hin y (by simp [he, hy])

theorem State.stopped_iff {s : State} : s.stopped = true ↔ s.halted = true ∧ s.iff1 = false := by
  simp [State.stopped]

/-- Halted, with nothing to come that could end the halt (R265, R420, D26). -/
structure State.HaltedForGood (s : State) : Prop where
  stopped : s.stopped = true
  nmiReq : s.nmiReq = false
  inputs : quietInputs s.inputs

theorem State.HaltedForGood.halted {s : State} (h : s.HaltedForGood) : s.halted = true := (State.stopped_iff.mp h.stopped).1

theorem State.HaltedForGood.iff1 {s : State} (h : s.HaltedForGood) : s.iff1 = false := (State.stopped_iff.mp h.stopped).2

/-- A state that is halted for good runs a halt cycle. -/
theorem State.HaltedForGood.step_eq {s : State} (h : s.HaltedForGood) : step s = .next (haltCycle s.sample.clearInhibit) :=
  step_of_halted h.halted
    (boundary_of_disabled (by simpa using h.iff1) (State.sample_nmiReq_of_quiet h.nmiReq h.inputs))

/-- A halt cycle keeps the state halted for good. -/
theorem State.HaltedForGood.haltCycle {s : State} (h : s.HaltedForGood) : (haltCycle s.sample.clearInhibit).HaltedForGood where
  stopped := State.stopped_iff.mpr (by simp [Machine.haltCycle, h.halted, h.iff1])
  nmiReq := by simpa [Machine.haltCycle] using State.sample_nmiReq_of_quiet h.nmiReq h.inputs
  inputs := by simpa [Machine.haltCycle] using State.quietInputs_sample h.inputs

/-- What `n` halt cycles leave: every register but R, memory and the records as they were, R counted and 4 T-states added for each. -/
structure HaltCycled (n : Nat) (s t : State) : Prop where
  pc : t.pc = s.pc
  sp : t.sp = s.sp
  main : t.main = s.main
  alt : t.alt = s.alt
  ix : t.ix = s.ix
  iy : t.iy = s.iy
  i : t.i = s.i
  iff2 : t.iff2 = s.iff2
  im : t.im = s.im
  mem : t.mem = s.mem
  events : t.events = s.events
  r : t.r = refreshAdd s.r n
  cycles : t.cycles = s.cycles + 4 * n

theorem HaltCycled.refl (s : State) : HaltCycled 0 s s := by
  constructor <;> simp

theorem haltCycled_haltCycle (s : State) : HaltCycled 1 s (haltCycle s.sample.clearInhibit) := by
  constructor <;> simp [haltCycle]

/-- Halt cycles add up. -/
theorem HaltCycled.trans {j k : Nat} {s u t : State} (h : HaltCycled j s u) (h' : HaltCycled k u t) : HaltCycled (j + k) s t where
  pc := h'.pc.trans h.pc
  sp := h'.sp.trans h.sp
  main := h'.main.trans h.main
  alt := h'.alt.trans h.alt
  ix := h'.ix.trans h.ix
  iy := h'.iy.trans h.iy
  i := h'.i.trans h.i
  iff2 := h'.iff2.trans h.iff2
  im := h'.im.trans h.im
  mem := h'.mem.trans h.mem
  events := h'.events.trans h.events
  r := by rw [h'.r, h.r, refreshAdd_refreshAdd]
  cycles := by rw [h'.cycles, h.cycles, Nat.mul_add, Nat.add_assoc]

/-- Every run from a state that is halted for good is halt cycles, and ends halted for good. -/
theorem State.HaltedForGood.run {s : State} (h : s.HaltedForGood) (n : Nat) :
    ∃ t : State, Host.Core.run Sys2Proof.core n s = .next t ∧ t.HaltedForGood ∧ HaltCycled n s t := by
  induction n generalizing s with
  | zero => exact ⟨s, rfl, h, .refl s⟩
  | succ n ih =>
    obtain ⟨t, hrun, hgood, hcycled⟩ := ih h.haltCycle
    refine ⟨t, (run_succ_of_step h.step_eq n).trans hrun, hgood, ?_⟩
    rw [Nat.add_comm n 1]
    exact (haltCycled_haltCycle s).trans hcycled

/-- Settles O26: being halted for good is kept by every step, and a run under STOP is taken apart step by step. -/
theorem haltedForever : Obligations.HaltedForever := by
  unfold Obligations.HaltedForever
  constructor
  · intro n s hstopped hnmi hin
    have hgood : s.HaltedForGood := ⟨hstopped, hnmi, hin⟩
    obtain ⟨t, hrun, ht, hc⟩ := hgood.run n
    exact ⟨t, hrun, ht.stopped, hc.pc, hc.sp, hc.main, hc.alt, hc.ix, hc.iy, hc.i, hc.iff2, hc.im, hc.mem, hc.events, hc.r, hc.cycles⟩
  · intro stop n s t h
    obtain ⟨k, hk, hend, hrun, hclear⟩ := runUntil_runsClearOf h
    exact ⟨k, hk, hrun, hend, hclear⟩

/-! ## Displacements -/

/-- The sum of two words is their signed sum modulo 0x10000, whichever of them is read as signed (R9). -/
theorem toNat_add_eq_emod (w x : Word) : ((w + x).toNat : Int) = ((w.toNat : Int) + x.toInt) % 0x10000 := by
  rw [BitVec.toNat_add, BitVec.toInt_eq_toNat_cond]
  split <;> omega

/-- A displacement as a signed number is its two's-complement value. -/
theorem sextInt_eq_toInt (d : Byte) : sextInt d = d.toInt := by
  rw [sextInt, BitVec.toInt_eq_msb_cond, BitVec.msb_eq_getLsbD_last]
  rfl

/-- Sign extension keeps the signed value (R11). -/
theorem sext8_toInt (d : Byte) : (sext8 d).toInt = sextInt d := by
  rw [sextInt_eq_toInt]
  exact BitVec.toInt_signExtend_of_le (by decide)

/-- A displacement is added as a signed number modulo 0x10000 (R113, R114). -/
theorem toNat_add_sext8 (w : Word) (d : Byte) : ((w + sext8 d).toNat : Int) = ((w.toNat : Int) + sextInt d) % 0x10000 := by
  rw [toNat_add_eq_emod, sext8_toInt]

/-- Settles O30: the address of an indexed operand is the sum of the index register and the sign-extended displacement. -/
theorem displacementsAreSigned : Obligations.DisplacementsAreSigned := by
  unfold Obligations.DisplacementsAreSigned
  exact ⟨toNat_add_sext8, fun s x d => toNat_add_sext8 (s.idx x) d⟩

end Sys2Proof.Machine
end

section
/-! PROOFS. The rows of the dispatch by the shape of their meaning: every instruction runs one of the shared shapes, so a fact about every
instruction is a case split over the shapes. -/

namespace Sys2Proof.Machine

/-- The four block bodies (R216, R220, R366, R371). -/
inductive BlockOp where
  | move | search | input | output

/-- What one iteration does. -/
def BlockOp.body (o : BlockOp) (d : Dir) : State → State :=
  match o with
  | .move => blockMove d
  | .search => blockSearch d
  | .input => blockIn d
  | .output => blockOut d

/-- Whether the repeating row goes on, from the state after the iteration (R215). -/
def BlockOp.again (o : BlockOp) : State → Bool :=
  match o with
  | .move => bcNonzero
  | .search => bcNonzeroNotFound
  | .input | .output => bNonzero

/-- A rotate of A as an operation on a byte and the flags (R300 to R303). -/
def accRotOp (k : Rot) (a : Byte) (fl : Flags) : Byte × Flags :=
  let r := rotApply k a fl.c
  (r.1, accRotFlags r.1 r.2 fl)

/-- The shapes of the meanings: those of Machine/Operands.lean, and one for each row that has a meaning of its own. -/
inductive Shape where
  | load8 (dst : Loc8) (src : Src8) (t : Nat)
  | alu (op : AluOp) (src : Src8) (t : Nat)
  | modify8 (f : Byte → Flags → Byte × Flags) (l : Loc8) (t : Nat)
  | change8 (f : Byte → Byte) (l : Loc8) (t : Nat)
  | rotateCopy (k : Rot) (x : Idx) (d : Byte) (r : Reg8)
  | changeCopy (f : Byte → Byte) (x : Idx) (d : Byte) (r : Reg8)
  | testReg (b : Oct) (r : Reg8)
  | testHL (b : Oct)
  | testIdx (b : Oct) (x : Idx) (d : Byte)
  | onAcc (f : Byte → Flags → Byte × Flags) (t : Nat)
  | onFlags (f : Byte → Flags → Flags)
  | nibbleRotate (f : Byte → Byte → Byte × Byte)
  | load16Imm (dst : Reg16) (nn : Word) (ldSp : Bool) (t : Nat)
  | load16Mem (dst : Reg16) (nn : Word) (ldSp : Bool) (t : Nat)
  | store16Mem (src : Reg16) (nn : Word) (t : Nat)
  | loadSp (src : Reg16) (t : Nat)
  | push (src : Reg16) (t : Nat)
  | pop (dst : Reg16) (t : Nat)
  | exchangeStack (q : Reg16) (t : Nat)
  | exchangeDEHL
  | addPair (dst src : Reg16) (t : Nat)
  | carryPair (f : Word → Word → Bool → Word × Flags) (src : Reg16)
  | stepPair (d : Dir) (q : Reg16) (t : Nat)
  | blockOnce (o : BlockOp) (d : Dir)
  | blockRepeat (o : BlockOp) (d : Dir)
  | jumpReg (q : Reg16) (t : Nat)
  | jump (nn : Word)
  | jumpIf (cc : Cond) (nn : Word)
  | jumpRel (e : Byte)
  | jumpRelIf (cc : Cond) (e : Byte)
  | djnz (e : Byte)
  | call (nn : Word) (t : Nat)
  | callIf (cc : Cond) (nn : Word)
  | ret
  | retIf (cc : Cond)
  | inputA (n : Byte)
  | outputA (n : Byte)
  | inputReg (r : Reg8)
  | inputFlags
  | outputReg (r : Reg8)
  | outputZero
  | loadAR
  | noOperation (t : Nat)
  | exchangeAF
  | exchangeBanks
  | loadAI
  | loadIA
  | loadRA
  | setIntMode (m : IntMode)
  | di
  | ei
  | retInt
  | halt
  | wastedPrefix

/-- The meaning a shape stands for. -/
def Shape.run (sh : Shape) (s : State) : Out :=
  match sh with
  | .load8 dst src t => Machine.load8 dst src t s
  | .alu op src t => Machine.alu op src t s
  | .modify8 f l t => Machine.modify8 f l t s
  | .change8 f l t => Machine.change8 f l t s
  | .rotateCopy k x d r => Machine.rotateCopy k x d r s
  | .changeCopy f x d r => Machine.changeCopy f x d r s
  | .testReg b r => execBitBR b r s
  | .testHL b => execBitBIndHL b s
  | .testIdx b x d => testBit b (.mem (.idx x d)) ((s.addr (.idx x d)).getLsbD 13) ((s.addr (.idx x d)).getLsbD 11) 20 s
  | .onAcc f t => .next (((s.notifyPlain).setAF (f s.main.a s.flags)).tick t)
  | .onFlags f => .next (((s.notifyPlain).setFlags (f s.main.a s.flags)).tick 4)
  | .nibbleRotate f => Machine.nibbleRotate f s
  | .load16Imm dst nn ldSp t => Machine.load16Imm dst nn ldSp t s
  | .load16Mem dst nn ldSp t => Machine.load16Mem dst nn ldSp t s
  | .store16Mem src nn t => Machine.store16Mem src nn t s
  | .loadSp src t => Machine.loadSp src t s
  | .push src t => Machine.push src t s
  | .pop dst t => Machine.pop dst t s
  | .exchangeStack q t => Machine.exchangeStack q t s
  | .exchangeDEHL => execExDEHL s
  | .addPair dst src t => Machine.addPair dst src t s
  | .carryPair f src => Machine.carryPair f src s
  | .stepPair d q t => Machine.stepPair d q t s
  | .blockOnce o d => Machine.blockOnce (o.body d) s
  | .blockRepeat o d => Machine.blockRepeat (o.body d) o.again s
  | .jumpReg q t => Machine.jump (s.get16 q) t s
  | .jump nn => Machine.jump nn 10 s
  | .jumpIf cc nn => execJpCcNn cc nn s
  | .jumpRel e => Machine.jumpRel true e 12 12 s
  | .jumpRelIf cc e => Machine.jumpRel (condHolds cc s.flags) e 12 7 s
  | .djnz e => execDjnz e s
  | .call nn t => Machine.call nn t s
  | .callIf cc nn => execCallCcNn cc nn s
  | .ret => Machine.ret 10 s
  | .retIf cc => execRetCc cc s
  | .inputA n => execInAPortN n s
  | .outputA n => execOutPortNA n s
  | .inputReg r => Machine.inputReg r s
  | .inputFlags => execInFPortC s
  | .outputReg r => outputC (s.reg r) s
  | .outputZero => outputC 0x00 s
  | .loadAR => loadAFromControl s.r s
  | .noOperation t => Machine.noOperation t s
  | .exchangeAF => execExAFAF s
  | .exchangeBanks => execExx s
  | .loadAI => loadAFromControl s.i s
  | .loadIA => execLdIA s
  | .loadRA => execLdRA s
  | .setIntMode m => Machine.setIntMode m s
  | .di => execDi s
  | .ei => execEi s
  | .retInt => Machine.retInt s
  | .halt => execHalt s
  | .wastedPrefix => Machine.wastedPrefix s

/-- The shape of the rows that `form` leaves apart. The last line also stands for the rows that `form` gives a shape, of which `shapeOf` does
not ask here. -/
def otherShape (i : Instr) : Shape :=
  match i with
  | .exAFAF => .exchangeAF
  | .exx => .exchangeBanks
  | .exDEHL => .exchangeDEHL
  | .exIndSPHL => .exchangeStack .hl 19
  | .exIndSPIX => .exchangeStack .ix 23
  | .exIndSPIY => .exchangeStack .iy 23
  | .djnz e => .djnz e
  | .jr e => .jumpRel e
  | .jrCc cc e => .jumpRelIf cc.cond e
  | .jpHL => .jumpReg .hl 4
  | .jpIX => .jumpReg .ix 8
  | .jpIY => .jumpReg .iy 8
  | .jpNn nn => .jump nn
  | .jpCcNn cc nn => .jumpIf cc nn
  | .callNn nn => .call nn 17
  | .callCcNn cc nn => .callIf cc nn
  | .rst p => .call (word 0x00 (BitVec.ofNat 8 (p.toNat * 8))) 11
  | .ret => .ret
  | .retCc cc => .retIf cc
  | .reti | .retn _ => .retInt
  | .ldRpNn rp nn => .load16Imm (pairReg rp) nn (rp == .sp) 10
  | .ldIXNn nn => .load16Imm .ix nn false 14
  | .ldIYNn nn => .load16Imm .iy nn false 14
  | .ldHLIndNn nn => .load16Mem .hl nn false 16
  | .ldRpIndNn rp nn => .load16Mem (pairReg rp) nn (rp == .sp) 20
  | .ldIXIndNn nn => .load16Mem .ix nn false 20
  | .ldIYIndNn nn => .load16Mem .iy nn false 20
  | .ldIndNnHL nn => .store16Mem .hl nn 16
  | .ldIndNnRp rp nn => .store16Mem (pairReg rp) nn 20
  | .ldIndNnIX nn => .store16Mem .ix nn 20
  | .ldIndNnIY nn => .store16Mem .iy nn 20
  | .ldSPHL => .loadSp .hl 6
  | .ldSPIX => .loadSp .ix 10
  | .ldSPIY => .loadSp .iy 10
  | .pushQq qq => .push (stackReg qq) 11
  | .pushIX => .push .ix 15
  | .pushIY => .push .iy 15
  | .popQq qq => .pop (stackReg qq) 10
  | .popIX => .pop .ix 14
  | .popIY => .pop .iy 14
  | .addHLRp rp => .addPair .hl (pairReg rp) 11
  | .addIXPp pp => .addPair .ix (idxPairReg pp .ix) 15
  | .addIYPp pp => .addPair .iy (idxPairReg pp .iy) 15
  | .adcHLRp rp => .carryPair adc16 (pairReg rp)
  | .sbcHLRp rp => .carryPair sbc16 (pairReg rp)
  | .incRp rp => .stepPair .inc (pairReg rp) 6
  | .decRp rp => .stepPair .dec (pairReg rp) 6
  | .incIX => .stepPair .inc .ix 10
  | .decIX => .stepPair .dec .ix 10
  | .incIY => .stepPair .inc .iy 10
  | .decIY => .stepPair .dec .iy 10
  | .rlca => .onAcc (accRotOp .rlc) 4
  | .rrca => .onAcc (accRotOp .rrc) 4
  | .rla => .onAcc (accRotOp .rl) 4
  | .rra => .onAcc (accRotOp .rr) 4
  | .daa => .onAcc daa 4
  | .cpl => .onAcc cpl 4
  | .neg _ => .onAcc (fun a _ => sub8 0 a false) 8
  | .scf => .onFlags scf
  | .ccf => .onFlags ccf
  | .rrd => .nibbleRotate (fun a v => ((a &&& 0xF0) ||| (v &&& 0x0F), (a <<< 4) ||| (v >>> 4)))
  | .rld => .nibbleRotate (fun a v => ((a &&& 0xF0) ||| (v >>> 4), (v <<< 4) ||| (a &&& 0x0F)))
  | .bitBR b r => .testReg b r
  | .bitBIndHL b => .testHL b
  | .bitBIXd b d _ => .testIdx b .ix d
  | .bitBIYd b d _ => .testIdx b .iy d
  | .ldi => .blockOnce .move .inc
  | .ldd => .blockOnce .move .dec
  | .ldir => .blockRepeat .move .inc
  | .lddr => .blockRepeat .move .dec
  | .cpi => .blockOnce .search .inc
  | .cpd => .blockOnce .search .dec
  | .cpir => .blockRepeat .search .inc
  | .cpdr => .blockRepeat .search .dec
  | .ini => .blockOnce .input .inc
  | .ind => .blockOnce .input .dec
  | .inir => .blockRepeat .input .inc
  | .indr => .blockRepeat .input .dec
  | .outi => .blockOnce .output .inc
  | .outd => .blockOnce .output .dec
  | .otir => .blockRepeat .output .inc
  | .otdr => .blockRepeat .output .dec
  | .inAPortN n => .inputA n
  | .outPortNA n => .outputA n
  | .inRPortC r => .inputReg r
  | .inFPortC => .inputFlags
  | .outPortCR r => .outputReg r
  | .outPortC0 => .outputZero
  | .ldAI => .loadAI
  | .ldAR => .loadAR
  | .ldIA => .loadIA
  | .ldRA => .loadRA
  | .im0 _ => .setIntMode .im0
  | .im1 _ => .setIntMode .im1
  | .im2 _ => .setIntMode .im2
  | .di => .di
  | .ei => .ei
  | .halt => .halt
  | .wastedDD | .wastedFD => .wastedPrefix
  | .edNop _ | .unsupportedED00 _ | .unsupportedED80 _ | .unsupportedEDA4 _ | .unsupportedEDC0 _ => .noOperation 8
  | .nop | _ => .noOperation 4

/-- The shape of each row: from its form, where that says what the row does. -/
def shapeOf (i : Instr) : Shape :=
  match form i with
  | .load8 dst src => .load8 dst src (tstates i).1
  | .alu op src => .alu op src (tstates i).1
  | .incDec .inc l => .modify8 inc8 l (tstates i).1
  | .incDec .dec l => .modify8 dec8 l (tstates i).1
  | .rot k l => .modify8 (rotOp k) l (tstates i).1
  | .rotCopy k x d r => .rotateCopy k x d r
  | .resSet false b l => .change8 (resBit b) l (tstates i).1
  | .resSet true b l => .change8 (setBit b) l (tstates i).1
  | .resSetCopy false b x d r => .changeCopy (resBit b) x d r
  | .resSetCopy true b x d r => .changeCopy (setBit b) x d r
  | .branch | .repeating | .hook | .other => otherShape i

/-- Every instruction runs its shape. -/
theorem exec_eq_run (i : Instr) (s : State) : exec i s = (shapeOf i).run s := by
  cases i <;> rfl

end Sys2Proof.Machine
end

section
/-! PROOFS. The invariant: what an ordinary row leaves as it was, the canonical form of memory, and the control rows (spec/10_state.md R36,
spec/40_dispatch.md R130). -/

namespace Sys2Proof.Machine

/-! ## What an ordinary row leaves -/

/-- The fields of the state that an ordinary row leaves as they are: the shadow bank, the control registers and latches, the host's side, the
parameters and the draw. -/
structure Rest where
  alt        : Bank
  i          : Byte
  r          : Byte
  iff1       : Bool
  iff2       : Bool
  im         : IntMode
  halted     : Bool
  intInhibit : Inhibit
  nmiReq     : Bool
  intReq     : Bool
  busByte    : Byte
  inputs     : List HostInput
  draw       : Nat
  params     : Config.Params

/-- Those fields of a state. -/
def State.rest (s : State) : Rest :=
  ⟨s.alt, s.i, s.r, s.iff1, s.iff2, s.im, s.halted, s.intInhibit, s.nmiReq, s.intReq, s.busByte, s.inputs, s.draw, s.params⟩

section
variable (s : State)

@[simp] theorem State.notifyPlain_rest : s.notifyPlain.rest = s.rest := rfl
@[simp] theorem State.notifyReturn_rest (b : Bool) : (s.notifyReturn b).rest = s.rest := rfl
@[simp] theorem State.notifyLdSp_rest (b : Bool) : (s.notifyLdSp b).rest = s.rest := rfl
@[simp] theorem State.portRead_rest (p : Byte) : (s.portRead p).rest = s.rest := rfl
@[simp] theorem State.portWrite_rest (p v : Byte) : (s.portWrite p v).rest = s.rest := rfl
@[simp] theorem State.tick_rest (t : Nat) : (s.tick t).rest = s.rest := rfl
@[simp] theorem State.setReg_rest (r : Reg8) (v : Byte) : (s.setReg r v).rest = s.rest := rfl
@[simp] theorem State.setMain_rest (k : Bank) : (s.setMain k).rest = s.rest := rfl
@[simp] theorem State.setFlags_rest (fl : Flags) : (s.setFlags fl).rest = s.rest := rfl
@[simp] theorem State.setAF_rest (r : Byte × Flags) : (s.setAF r).rest = s.rest := rfl
@[simp] theorem State.setPc_rest (v : Word) : (s.setPc v).rest = s.rest := rfl
@[simp] theorem State.dropWord_rest : s.dropWord.rest = s.rest := rfl
@[simp] theorem State.setIdx_rest (x : Idx) (v : Word) : (s.setIdx x v).rest = s.rest := by cases x <;> rfl
@[simp] theorem State.set16_rest (q : Reg16) (v : Word) : (s.set16 q v).rest = s.rest := by cases q <;> rfl
@[simp] theorem State.memWrite_rest (a : Word) (v : Byte) : (s.memWrite a v).rest = s.rest := by unfold State.memWrite; split <;> rfl
@[simp] theorem State.memWrite16_rest (a v : Word) : (s.memWrite16 a v).rest = s.rest := by simp [State.memWrite16]
@[simp] theorem State.push16_rest (v : Word) : (s.push16 v).rest = s.rest := by rw [State.push16_eq]; rfl
@[simp] theorem State.set8_rest (l : Loc8) (v : Byte) : (s.set8 l v).rest = s.rest := by
  rcases l with _ | _ | ⟨_, _ | _⟩ <;> simp [State.set8]
@[simp] theorem BlockOp.body_rest (o : BlockOp) (d : Dir) : (o.body d s).rest = s.rest := by
  cases o <;> simp [BlockOp.body, blockMove, blockSearch, blockIn, blockOut]

end

/-- What sets a shape apart from the ordinary ones, which leave every field of `Rest`: the field that it swaps, writes or, for LD A,I, reads. -/
def Shape.control (sh : Shape) : Option Item :=
  match sh with
  | .exchangeAF | .exchangeBanks => some .shadow
  | .loadAI | .loadIA => some .regI
  | .loadRA => some .regR
  | .setIntMode _ => some .im
  | .di | .ei | .retInt => some .iff1
  | .halt => some .halted
  | .wastedPrefix => some .intInhibit
  | _ => none

/-- An answer that tests a condition is one branch or the other. -/
theorem next_ite_cases {c : Prop} [Decidable c] {a b t : State} (h : (Host.Outcome.next (if c then a else b) : Out) = .next t) :
    (c ∧ a = t) ∨ (¬ c ∧ b = t) := by
  split at h
  · next hc => exact .inl ⟨hc, Host.Outcome.next.inj h⟩
  · next hc => exact .inr ⟨hc, Host.Outcome.next.inj h⟩

/-- An ordinary row leaves the rest of the state as it is. -/
theorem Shape.run_rest {sh : Shape} {s t : State} (hc : sh.control = none) (h : sh.run s = .next t) : t.rest = s.rest := by
  cases sh with
  | rotateCopy | changeCopy =>
    obtain rfl := Host.Outcome.next.inj (ifCopyAdmitted_next h)
    simp
  | blockRepeat | jumpIf | jumpRelIf | djnz | callIf | retIf =>
    obtain ⟨-, rfl⟩ | ⟨-, rfl⟩ := next_ite_cases h <;> simp
  | exchangeAF | exchangeBanks | loadAI | loadIA | loadRA | setIntMode | di | ei | retInt | halt | wastedPrefix => cases hc
  | _ =>
    obtain rfl := Host.Outcome.next.inj h
    simp

/-! ## The canonical form of memory -/

theorem State.set8_wf {s : State} (w : s.mem.wf = true) (l : Loc8) (v : Byte) : (s.set8 l v).mem.wf = true := by
  rcases l with _ | _ | ⟨_, _ | _⟩
  · exact w
  · exact State.memWrite_wf s w _ _
  · simpa [State.set8] using w
  · simpa [State.set8] using w

theorem BlockOp.body_wf {s : State} (w : s.mem.wf = true) (o : BlockOp) (d : Dir) : (o.body d s).mem.wf = true := by
  cases o with
  | move => exact blockMove_mem s d ▸ State.memWrite_wf s w _ _
  | input => exact blockIn_mem s d ▸ State.memWrite_wf s w _ _
  | search | output => simpa [BlockOp.body] using w

/-- Every row keeps the canonical form: all that it does to memory is to store a byte, a word or an iteration's byte, or to push. -/
theorem Shape.run_wf {sh : Shape} {s t : State} (w : s.mem.wf = true) (h : sh.run s = .next t) : t.mem.wf = true := by
  cases sh with
  | rotateCopy | changeCopy =>
    obtain rfl := Host.Outcome.next.inj (ifCopyAdmitted_next h)
    simp [State.set8_wf, w]
  | load8 | modify8 | change8 =>
    obtain rfl := Host.Outcome.next.inj h
    simp [State.set8_wf, w]
  | store16Mem =>
    obtain rfl := Host.Outcome.next.inj h
    simp [State.memWrite16_wf, w]
  | nibbleRotate | exchangeStack | push | call =>
    obtain rfl := Host.Outcome.next.inj h
    simp [-State.memWrite_mem, State.memWrite_wf, w]
  | blockOnce =>
    obtain rfl := Host.Outcome.next.inj h
    simp [BlockOp.body_wf, w]
  | blockRepeat => obtain ⟨-, rfl⟩ | ⟨-, rfl⟩ := next_ite_cases h <;> simp [BlockOp.body_wf, w]
  | callIf => obtain ⟨-, rfl⟩ | ⟨-, rfl⟩ := next_ite_cases h <;> simp [-State.memWrite_mem, State.memWrite_wf, w]
  | jumpIf | jumpRelIf | djnz | retIf => obtain ⟨-, rfl⟩ | ⟨-, rfl⟩ := next_ite_cases h <;> exact w
  | _ =>
    obtain rfl := Host.Outcome.next.inj h
    simpa [State.returnFromInterrupt] using w

/-! ## The invariant -/

/-- Every row keeps the invariant, from a state that is not halted and has no inhibit left: an ordinary row leaves the four fields of it, HALT
sets the latch only, and the other control rows do not halt. -/
theorem Shape.run_inv {sh : Shape} {s t : State} (hi : s.Inv) (hh : s.halted = false) (hn : s.intInhibit = .none)
    (h : sh.run s = .next t) : t.Inv := by
  obtain ⟨hw, hiff, -⟩ := hi
  refine ⟨sh.run_wf hw h, ?_⟩
  by_cases hc : sh.control = none
  · have hr : t.rest = s.rest := sh.run_rest hc h
    have h1 : t.iff1 = s.iff1 := congrArg Rest.iff1 hr
    have h2 : t.iff2 = s.iff2 := congrArg Rest.iff2 hr
    have h3 : t.halted = s.halted := congrArg Rest.halted hr
    rw [h1, h2, h3, hh]
    exact ⟨hiff, nofun⟩
  cases sh with
  | halt =>
    obtain rfl := Host.Outcome.next.inj h
    exact ⟨hiff, fun _ => hn⟩
  | di | ei | retInt =>
    obtain rfl := Host.Outcome.next.inj h
    simp [hh, State.returnFromInterrupt]
  | exchangeAF | exchangeBanks | loadAI | loadIA | loadRA | setIntMode | wastedPrefix =>
    obtain rfl := Host.Outcome.next.inj h
    simpa [hh] using hiff
  | _ => exact absurd rfl hc

/-- A halt cycle keeps the invariant: the inhibit is spent before it (R130). -/
theorem State.Inv.haltCycle {s : State} (h : s.Inv) : (haltCycle s.clearInhibit).Inv := by
  obtain ⟨hw, hiff, -⟩ := h
  exact ⟨hw, hiff, fun _ => rfl⟩

theorem State.takeInterrupt_wf {s : State} (w : s.mem.wf = true) : s.takeInterrupt.mem.wf = true := by
  refine State.push16_wf _ ?_ s.pc
  exact w

/-- An NMI acceptance keeps the invariant: it clears IFF1 and ends the halt (R409). -/
theorem State.Inv.acceptNmi {s : State} (h : s.Inv) : (acceptNmi s).Inv := by
  rw [acceptNmi_eq]
  exact ⟨State.takeInterrupt_wf h.1, nofun, nofun⟩

theorem State.takeInt_inv {s : State} (w : s.mem.wf = true) : s.takeInt.Inv := by
  rw [takeInt_eq]
  exact ⟨State.takeInterrupt_wf w, nofun, nofun⟩

/-- A maskable acceptance keeps the invariant in every mode: its common part establishes it (R405). -/
theorem State.Inv.acceptInt {s t : State} (h : s.Inv) (ha : acceptInt s = .next t) : t.Inv := by
  have ht : s.takeInt.Inv := State.takeInt_inv h.1
  obtain ⟨-, -, rfl⟩ | ⟨-, rfl⟩ | ⟨-, rfl⟩ := acceptInt_cases ha <;> exact ht

/-- Settles O27, by the cases of a step: an acceptance, a halt cycle, or one execute call after the inhibit is spent. -/
theorem invariantKept : Obligations.InvariantKept := by
  unfold Obligations.InvariantKept
  intro s t hs h
  have hsample : s.sample.Inv := by simpa [State.Inv] using hs
  obtain ⟨-, rfl⟩ | ⟨-, ha⟩ | ⟨-, -, rfl⟩ | ⟨-, hh, he⟩ := step_cases h
  · exact hsample.acceptNmi
  · exact hsample.acceptInt ha
  · exact hsample.haltCycle
  · rw [exec_eq_run] at he
    refine Shape.run_inv ?_ (by simpa using hh) rfl he
    obtain ⟨hw, hiff, -⟩ := hsample
    exact ⟨hw, hiff, fun _ => rfl⟩

end Sys2Proof.Machine
end

section
/-! PROOFS. The host's side, the program counter and the refresh register (spec/10_state.md R27, R33, R40). -/

namespace Sys2Proof.Machine

/-! ## The host's side -/

/-- No row changes what the host presents, the parameters or the draw. -/
theorem Shape.run_hostSide {sh : Shape} {s t : State} (h : sh.run s = .next t) :
    t.nmiReq = s.nmiReq ∧ t.intReq = s.intReq ∧ t.busByte = s.busByte ∧ t.inputs = s.inputs ∧ t.params = s.params ∧ t.draw = s.draw := by
  by_cases hc : sh.control = none
  · have hr : t.rest = s.rest := sh.run_rest hc h
    exact ⟨congrArg Rest.nmiReq hr, congrArg Rest.intReq hr, congrArg Rest.busByte hr, congrArg Rest.inputs hr, congrArg Rest.params hr,
      congrArg Rest.draw hr⟩
  cases sh with
  | exchangeAF | exchangeBanks | loadAI | loadIA | loadRA | setIntMode | di | ei | retInt | halt | wastedPrefix =>
    obtain rfl := Host.Outcome.next.inj h
    exact ⟨rfl, rfl, rfl, rfl, rfl, rfl⟩
  | _ => exact absurd rfl hc

/-- Settles O13: no shape changes the host's side. -/
theorem hostSideKept : Obligations.HostSideKept := by
  unfold Obligations.HostSideKept
  intro i s t h
  rw [exec_eq_run] at h
  exact Shape.run_hostSide h

/-! ## The program counter -/

/-- Whether the rows of a shape may leave PC elsewhere than the fetch did. -/
def Shape.movesPc (sh : Shape) : Bool :=
  match sh with
  | .jumpReg _ _ | .jump _ | .jumpIf _ _ | .jumpRel _ | .jumpRelIf _ _ | .djnz _ | .call _ _ | .callIf _ _ | .ret | .retIf _ | .retInt
  | .blockRepeat _ _ | .wastedPrefix => true
  | _ => false

theorem BlockOp.body_pc (o : BlockOp) (d : Dir) (s : State) : (o.body d s).pc = s.pc := by
  cases o <;> simp [BlockOp.body]

/-- Any other row leaves PC where the fetch did. -/
theorem Shape.run_pc {sh : Shape} {s t : State} (hm : sh.movesPc = false) (h : sh.run s = .next t) : t.pc = s.pc := by
  cases sh with
  | rotateCopy | changeCopy =>
    obtain rfl := Host.Outcome.next.inj (ifCopyAdmitted_next h)
    simp
  | jumpReg | jump | jumpIf | jumpRel | jumpRelIf | djnz | call | callIf | ret | retIf | retInt | blockRepeat | wastedPrefix => cases hm
  | _ =>
    obtain rfl := Host.Outcome.next.inj h
    simp [BlockOp.body_pc]

/-- The rows whose shape may move PC: branches, repeating block instructions and wasted prefixes. -/
theorem movesPc_shapeOf (i : Instr) : (shapeOf i).movesPc = (form i == .branch || form i == .repeating || i.format == .xyw) := by
  cases i <;> rfl

theorem fetchCount_eq_length {i : Instr} (h : i.format ≠ .xyw) : i.fetchCount = i.length := by
  unfold Instr.fetchCount
  split
  case h_1 hf => exact absurd hf h
  all_goals rfl

/-- The condition of a repeating row from the state before the iteration (R215). -/
def BlockOp.goesOn (o : BlockOp) (s : State) : Bool :=
  match o with
  | .move => s.main.bc - 1 != 0
  | .search => s.main.bc - 1 != 0 && s.main.a - s.memRead .data0 s.main.hl != 0
  | .input | .output => s.main.b - 1 != 0

theorem BlockOp.again_body (o : BlockOp) (d : Dir) (s : State) : o.again (o.body d s) = o.goesOn s := by
  cases o with
  | move => exact bcNonzero_blockMove d s
  | search => exact bcNonzeroNotFound_blockSearch d s
  | input => exact bNonzero_blockIn d s
  | output => exact bNonzero_blockOut d s

/-- A repeating row steps PC back over its two bytes when it goes on (R215). -/
theorem Shape.run_blockRepeat_pc {o : BlockOp} {d : Dir} {s t : State} (h : (Shape.blockRepeat o d).run s = .next t) :
    t.pc = if o.goesOn s then s.pc - 2 else s.pc := by
  have hg : o.again (o.body d s.notifyPlain) = o.goesOn s := by
    rw [BlockOp.again_body]
    cases o <;> rfl
  obtain ⟨hc, rfl⟩ | ⟨hc, rfl⟩ := next_ite_cases h <;> rw [hg] at hc <;> simp [BlockOp.body_pc, hc]

/-- The eight repeating rows, their shape and their condition. -/
theorem repeating_cases {i : Instr} (h : form i = .repeating) :
    ∃ o d, shapeOf i = .blockRepeat o d ∧ taken i = o.goesOn ∧ i.fetchCount = 2 ∧ i.length = 2 := by
  cases i with
  | ldir | lddr | cpir | cpdr | inir | indr | otir | otdr => exact ⟨_, _, rfl, rfl, rfl, rfl⟩
  | _ => cases h

/-- The two wasted prefixes. -/
theorem wasted_cases {i : Instr} (h : i.format = .xyw) : shapeOf i = .wastedPrefix ∧ i.fetchCount = 2 ∧ i.length = 1 := by
  cases i with
  | wastedDD | wastedFD => exact ⟨rfl, rfl, rfl⟩
  | _ => cases h

/-- Settles O17: a repeating row steps back its two bytes while it goes on, a wasted byte steps back the one byte fetched after it, and every
other row that does not branch leaves PC past the bytes fetched. -/
theorem programCounterAdvances : Obligations.ProgramCounterAdvances := by
  unfold Obligations.ProgramCounterAdvances
  intro i s t hb h
  rw [exec_eq_run] at h
  by_cases hr : form i = .repeating
  · obtain ⟨o, d, hs, ht, hn, hl⟩ := repeating_cases hr
    rw [hs] at h
    rw [Shape.run_blockRepeat_pc h, ht, fetched_pc, hn, hl]
    simp [hr]
  rw [if_neg (fun hrep => hr hrep.1)]
  by_cases hw : i.format = .xyw
  · obtain ⟨hs, hn, hl⟩ := wasted_cases hw
    rw [hs] at h
    obtain rfl := Host.Outcome.next.inj h
    rw [hl]
    show s.pc + BitVec.ofNat 16 i.fetchCount - 1 = _
    rw [hn]
    bv_omega
  · have hm : (shapeOf i).movesPc = false := by simp [movesPc_shapeOf, hb, hr, hw]
    rw [Shape.run_pc hm h, fetched_pc, fetchCount_eq_length hw]

/-! ## The refresh register -/

/-- Settles O18: the count as a number, `refreshAdd_toNat`, has both facts. -/
theorem refreshAddSevenBits : Obligations.RefreshAddSevenBits := by
  unfold Obligations.RefreshAddSevenBits
  intro r k
  have hk : (refreshAdd r k).toNat = 128 * (r.toNat / 128) + (r.toNat + k) % 128 := refreshAdd_toNat r k
  refine ⟨by omega, ?_⟩
  have hd : (refreshAdd r k).toNat / 2 ^ 7 = r.toNat / 2 ^ 7 := by omega
  simp only [BitVec.getLsbD, Nat.testBit_eq_decide_div_mod_eq, hd]

end Sys2Proof.Machine
end

section
/-! PROOFS. Who reads and writes the shadow bank, the index registers and the control registers (spec/10_state.md R24, R25, R31, R35 to R37):
a change of a field that a row's shape does not use commutes with the row. -/

namespace Sys2Proof.Machine

/-! ## A change of one field -/

/-- A field that only some rows read or write, set to another value. -/
inductive Change where
  | alt (k : Bank)
  | ix (w : Word)
  | iy (w : Word)
  | i (v : Byte)
  | im (m : IntMode)
  | iff1 (b : Bool)
  | halted (b : Bool)

/-- The changed state. -/
def Change.apply (u : Change) (s : State) : State :=
  match u with
  | .alt k => { s with alt := k }
  | .ix w => { s with ix := w }
  | .iy w => { s with iy := w }
  | .i v => { s with i := v }
  | .im m => { s with im := m }
  | .iff1 b => { s with iff1 := b }
  | .halted b => { s with halted := b }

/-- The piece of state that is changed. -/
def Change.item (u : Change) : Item :=
  match u with
  | .alt _ => .shadow
  | .ix _ => .ix
  | .iy _ => .iy
  | .i _ => .regI
  | .im _ => .im
  | .iff1 _ => .iff1
  | .halted _ => .halted

/-- An index register as a piece of state. -/
def idxItem (x : Idx) : Item :=
  match x with
  | .ix => .ix
  | .iy => .iy

/-! What the change leaves. -/

section
variable (u : Change) (s : State)

@[simp] theorem Change.apply_main : (u.apply s).main = s.main := by cases u <;> rfl
@[simp] theorem Change.apply_sp : (u.apply s).sp = s.sp := by cases u <;> rfl
@[simp] theorem Change.apply_pc : (u.apply s).pc = s.pc := by cases u <;> rfl
@[simp] theorem Change.apply_draw : (u.apply s).draw = s.draw := by cases u <;> rfl
@[simp] theorem Change.apply_params : (u.apply s).params = s.params := by cases u <;> rfl
@[simp] theorem Change.apply_flags : (u.apply s).flags = s.flags := by cases u <;> rfl
@[simp] theorem Change.apply_reg (r : Reg8) : (u.apply s).reg r = s.reg r := by cases u <;> rfl
@[simp] theorem Change.apply_memRead (acc : Config.Access) (a : Word) : (u.apply s).memRead acc a = s.memRead acc a := by cases u <;> rfl
@[simp] theorem Change.apply_memRead16 (a : Word) : (u.apply s).memRead16 a = s.memRead16 a := by cases u <;> rfl
@[simp] theorem Change.apply_stackTop : (u.apply s).stackTop = s.stackTop := by cases u <;> rfl
@[simp] theorem Change.apply_portValue (p : Byte) : (u.apply s).portValue p = s.portValue p := by cases u <;> rfl

/-! The updates that commute with it. -/

@[simp] theorem Change.apply_notifyPlain : (u.apply s).notifyPlain = u.apply s.notifyPlain := by cases u <;> rfl
@[simp] theorem Change.apply_notifyReturn (b : Bool) : (u.apply s).notifyReturn b = u.apply (s.notifyReturn b) := by cases u <;> rfl
@[simp] theorem Change.apply_notifyLdSp (b : Bool) : (u.apply s).notifyLdSp b = u.apply (s.notifyLdSp b) := by cases u <;> rfl
@[simp] theorem Change.apply_portRead (p : Byte) : (u.apply s).portRead p = u.apply (s.portRead p) := by cases u <;> rfl
@[simp] theorem Change.apply_portWrite (p v : Byte) : (u.apply s).portWrite p v = u.apply (s.portWrite p v) := by cases u <;> rfl
@[simp] theorem Change.apply_tick (t : Nat) : (u.apply s).tick t = u.apply (s.tick t) := by cases u <;> rfl
@[simp] theorem Change.apply_setReg (r : Reg8) (v : Byte) : (u.apply s).setReg r v = u.apply (s.setReg r v) := by cases u <;> rfl
@[simp] theorem Change.apply_setMain (k : Bank) : (u.apply s).setMain k = u.apply (s.setMain k) := by cases u <;> rfl
@[simp] theorem Change.apply_setFlags (fl : Flags) : (u.apply s).setFlags fl = u.apply (s.setFlags fl) := by cases u <;> rfl
@[simp] theorem Change.apply_setAF (r : Byte × Flags) : (u.apply s).setAF r = u.apply (s.setAF r) := by cases u <;> rfl
@[simp] theorem Change.apply_setPc (v : Word) : (u.apply s).setPc v = u.apply (s.setPc v) := by cases u <;> rfl
@[simp] theorem Change.apply_dropWord : (u.apply s).dropWord = u.apply s.dropWord := by cases u <;> rfl
@[simp] theorem Change.apply_memWrite (a : Word) (v : Byte) : (u.apply s).memWrite a v = u.apply (s.memWrite a v) := by
  have hram : (u.apply s).isRam a = s.isRam a := State.isRam_congr (by simp) a
  simp only [State.memWrite, hram]
  cases u <;> split <;> rfl
@[simp] theorem Change.apply_memWrite16 (a v : Word) : (u.apply s).memWrite16 a v = u.apply (s.memWrite16 a v) := by
  simp [State.memWrite16]
@[simp] theorem Change.apply_push16 (v : Word) : (u.apply s).push16 v = u.apply (s.push16 v) := by
  simp only [State.push16, Change.apply_sp, Change.apply_memWrite]
  cases u <;> rfl
@[simp] theorem Change.apply_body (o : BlockOp) (d : Dir) : o.body d (u.apply s) = u.apply (o.body d s) := by
  cases o <;> simp [BlockOp.body, blockMove, blockSearch, blockIn, blockOut]
@[simp] theorem Change.apply_again (o : BlockOp) : o.again (u.apply s) = o.again s := by
  cases o <;> cases u <;> rfl

end

/-! ## The operands that name an index register -/

/-- Whether an 8-bit operand names an index register, as itself or in its address. -/
def Loc8.names (l : Loc8) (x : Idx) : Bool :=
  match l with
  | .mem (.idx y _) | .half y _ => y == x
  | _ => false

/-- Whether a source operand names an index register. -/
def Src8.names (o : Src8) (x : Idx) : Bool :=
  match o with
  | .loc l => l.names x
  | .imm _ => false

/-- Whether a 16-bit operand is an index register. -/
def Reg16.names (q : Reg16) (x : Idx) : Bool := q == idxReg x

/-- Whether a shape's operands name an index register. -/
def Shape.names (sh : Shape) (x : Idx) : Bool :=
  match sh with
  | .load8 dst src _ => dst.names x || src.names x
  | .alu _ src _ => src.names x
  | .modify8 _ l _ | .change8 _ l _ => l.names x
  | .rotateCopy _ y d _ | .changeCopy _ y d _ | .testIdx _ y d => (Loc8.mem (.idx y d)).names x
  | .load16Imm q _ _ _ | .load16Mem q _ _ _ | .store16Mem q _ _ | .loadSp q _ | .push q _ | .pop q _ | .exchangeStack q _
  | .carryPair _ q | .stepPair _ q _ | .jumpReg q _ => q.names x
  | .addPair dst src _ => dst.names x || src.names x
  | _ => false

/-- Whether a change leaves alone every index register that is named. -/
def Change.avoids (u : Change) (names : Idx → Bool) : Prop := ∀ x, names x = true → u.item ≠ idxItem x

section
variable {u : Change}

theorem Change.avoids.left {m n : Idx → Bool} (h : u.avoids fun x => m x || n x) : u.avoids m :=
  fun x hm => h x (by simp [hm])

theorem Change.avoids.right {m n : Idx → Bool} (h : u.avoids fun x => m x || n x) : u.avoids n :=
  fun x hn => h x (by simp [hn])

theorem Change.apply_idx {x : Idx} (h : u.item ≠ idxItem x) (s : State) : (u.apply s).idx x = s.idx x := by
  cases x with
  | ix =>
    cases u with
    | ix => exact absurd rfl h
    | _ => rfl
  | iy =>
    cases u with
    | iy => exact absurd rfl h
    | _ => rfl

theorem Change.apply_setIdx {x : Idx} (h : u.item ≠ idxItem x) (s : State) (v : Word) :
    (u.apply s).setIdx x v = u.apply (s.setIdx x v) := by
  cases x with
  | ix =>
    cases u with
    | ix => exact absurd rfl h
    | _ => rfl
  | iy =>
    cases u with
    | iy => exact absurd rfl h
    | _ => rfl

theorem Change.apply_addr {p : Ptr} (h : u.avoids (Loc8.mem p).names) (s : State) : (u.apply s).addr p = s.addr p := by
  cases p with
  | idx x d => exact congrArg (· + sext8 d) (Change.apply_idx (h x (by simp [Loc8.names])) s)
  | hl | bc | de | abs => simp [State.addr]

theorem Change.apply_get8 {l : Loc8} (h : u.avoids l.names) (s : State) : (u.apply s).get8 l = s.get8 l := by
  cases l with
  | reg r => simp [State.get8]
  | mem p => simp [State.get8, Change.apply_addr h]
  | half x k => cases k <;> simp [State.get8, Change.apply_idx (h x (by simp [Loc8.names]))]

theorem Change.apply_src8 {o : Src8} (h : u.avoids o.names) (s : State) : (u.apply s).src8 o = s.src8 o := by
  cases o with
  | loc l => exact Change.apply_get8 h s
  | imm n => rfl

theorem Change.apply_set8 {l : Loc8} (h : u.avoids l.names) (s : State) (v : Byte) :
    (u.apply s).set8 l v = u.apply (s.set8 l v) := by
  cases l with
  | reg r => simp [State.set8]
  | mem p => simp [State.set8, Change.apply_addr h]
  | half x k => cases k <;> simp [State.set8, Change.apply_idx (h x (by simp [Loc8.names])), Change.apply_setIdx (h x (by simp [Loc8.names]))]

theorem Change.apply_get16 {q : Reg16} (h : u.avoids q.names) (s : State) : (u.apply s).get16 q = s.get16 q := by
  cases q with
  | ix => exact Change.apply_idx (h .ix rfl) s
  | iy => exact Change.apply_idx (h .iy rfl) s
  | _ => cases u <;> rfl

theorem Change.apply_set16 {q : Reg16} (h : u.avoids q.names) (s : State) (v : Word) :
    (u.apply s).set16 q v = u.apply (s.set16 q v) := by
  cases q with
  | ix => exact Change.apply_setIdx (h .ix rfl) s v
  | iy => exact Change.apply_setIdx (h .iy rfl) s v
  | _ => cases u <;> rfl

end

@[simp] theorem mapNext_next (f : State → State) (t : State) : mapNext f (.next t) = .next (f t) := rfl

theorem mapNext_ifCopyAdmitted (f : State → State) (s : State) (o : Out) :
    mapNext f (ifCopyAdmitted s o) = ifCopyAdmitted s (mapNext f o) := by
  unfold ifCopyAdmitted
  split <;> rfl

@[simp] theorem Change.apply_ifCopyAdmitted (u : Change) (s : State) (o : Out) : ifCopyAdmitted (u.apply s) o = ifCopyAdmitted s o := by
  cases u <;> rfl

theorem jumpRel_change (u : Change) (taken : Bool) (e : Byte) (m n : Nat) (s : State) :
    jumpRel taken e m n (u.apply s) = mapNext u.apply (jumpRel taken e m n s) := by
  cases taken <;> simp [jumpRel]

/-- A change of what a shape does not use commutes with it. -/
theorem Shape.run_change {u : Change} {sh : Shape} (hx : u.avoids sh.names) (hc : sh.control ≠ some u.item) (s : State) :
    sh.run (u.apply s) = mapNext u.apply (sh.run s) := by
  cases sh with
  | load8 dst src =>
    have hdst : u.avoids dst.names := hx.left
    have hsrc : u.avoids src.names := hx.right
    simp [Shape.run, Machine.load8, Change.apply_src8 hsrc, Change.apply_set8 hdst]
  | alu op src =>
    have hsrc : u.avoids src.names := hx
    simp [Shape.run, Machine.alu, Change.apply_src8 hsrc]
  | modify8 _ l | change8 _ l =>
    have hl : u.avoids l.names := hx
    simp [Shape.run, Machine.modify8, Machine.change8, Change.apply_get8 hl, Change.apply_set8 hl]
  | rotateCopy _ y d | changeCopy _ y d =>
    have hl : u.avoids (Loc8.mem (.idx y d)).names := hx
    simp [Shape.run, Machine.rotateCopy, Machine.changeCopy, mapNext_ifCopyAdmitted, Change.apply_get8 hl, Change.apply_set8 hl]
  | testIdx b y d =>
    have hl : u.avoids (Loc8.mem (.idx y d)).names := hx
    simp [Shape.run, Machine.testBit, Change.apply_get8 hl, Change.apply_addr hl]
  | load16Imm q | load16Mem q | store16Mem q | push q | pop q | exchangeStack q | stepPair _ q | jumpReg q =>
    have hq : u.avoids q.names := hx
    simp [Shape.run, Machine.load16Imm, Machine.load16Mem, Machine.store16Mem, Machine.push, Machine.pop, Machine.exchangeStack,
      Machine.stepPair, Machine.jump, Change.apply_get16 hq, Change.apply_set16 hq]
  | loadSp q | carryPair _ q =>
    have hq : u.avoids q.names := hx
    simp only [Shape.run, Machine.loadSp, Machine.carryPair, Change.apply_get16 hq]
    cases u <;> rfl
  | addPair dst src =>
    have hdst : u.avoids dst.names := hx.left
    have hsrc : u.avoids src.names := hx.right
    simp [Shape.run, Machine.addPair, Change.apply_get16 hdst, Change.apply_get16 hsrc, Change.apply_set16 hdst]
  | nibbleRotate | call => simp [Shape.run, Machine.nibbleRotate, Machine.call]
  | blockOnce o d => simp [Shape.run, Machine.blockOnce]
  | blockRepeat o d => cases h : o.again (o.body d s.notifyPlain) <;> simp [Shape.run, Machine.blockRepeat, h]
  | callIf cc nn => cases h : condHolds cc s.flags <;> simp [Shape.run, execCallCcNn, h]
  | jumpIf cc nn => cases h : condHolds cc s.flags <;> simp [Shape.run, execJpCcNn, h]
  | retIf cc => cases h : condHolds cc s.flags <;> simp [Shape.run, execRetCc, h]
  | jumpRel | jumpRelIf => simp [Shape.run, jumpRel_change]
  | djnz => simp [Shape.run, execDjnz, jumpRel_change]
  | exchangeAF | exchangeBanks =>
    cases u with
    | alt => exact absurd rfl hc
    | _ => rfl
  | loadAI | loadIA =>
    cases u with
    | i => exact absurd rfl hc
    | _ => rfl
  | setIntMode =>
    cases u with
    | im => exact absurd rfl hc
    | _ => rfl
  | di | ei | retInt =>
    cases u with
    | iff1 => exact absurd rfl hc
    | _ => rfl
  | halt =>
    cases u with
    | halted => exact absurd rfl hc
    | _ => rfl
  | testReg | testHL | onAcc | onFlags | exchangeDEHL | jump | ret | inputA | outputA | inputReg | inputFlags | outputReg | outputZero
  | loadAR | noOperation | loadRA | wastedPrefix => cases u <;> rfl

/-! ## Which rows use what -/

/-- The rows that are not ordinary, and the field of `Rest` that each reads or writes: `Shape.control`, row by row. -/
def controlOf (i : Instr) : Option Item :=
  match i with
  | .exAFAF | .exx => some .shadow
  | .ldAI | .ldIA => some .regI
  | .ldRA => some .regR
  | .im0 _ | .im1 _ | .im2 _ => some .im
  | .di | .ei | .reti | .retn _ => some .iff1
  | .halt => some .halted
  | .wastedDD | .wastedFD => some .intInhibit
  | _ => none

theorem control_shapeOf (i : Instr) : (shapeOf i).control = controlOf i := by
  cases i <;> rfl

/-- The table read from its right-hand side. -/
theorem controlOf_eq_some {i : Instr} {y : Item} :
    controlOf i = some y ↔
      (y = .shadow ∧ (i = .exAFAF ∨ i = .exx)) ∨ (y = .regI ∧ (i = .ldAI ∨ i = .ldIA)) ∨ (y = .regR ∧ i = .ldRA) ∨
      (y = .im ∧ ∃ z, i = .im0 z ∨ i = .im1 z ∨ i = .im2 z) ∨ (y = .iff1 ∧ (i = .di ∨ i = .ei ∨ i = .reti ∨ ∃ z, i = .retn z)) ∨
      (y = .halted ∧ i = .halt) ∨ (y = .intInhibit ∧ (i = .wastedDD ∨ i = .wastedFD)) := by
  constructor
  · intro h
    unfold controlOf at h
    split at h <;> simp_all [eq_comm]
  · rintro (⟨rfl, rfl | rfl⟩ | ⟨rfl, rfl | rfl⟩ | ⟨rfl, rfl⟩ | ⟨rfl, z, rfl | rfl | rfl⟩ | ⟨rfl, rfl | rfl | rfl | ⟨z, rfl⟩⟩ | ⟨rfl, rfl⟩ |
      ⟨rfl, rfl | rfl⟩) <;> rfl

/-- Whether a row may read or write a piece of state that `Change` can change: an index register when its
opcode is DD- or FD-prefixed (R25), the others by the table. -/
def Uses (i : Instr) (y : Item) : Prop :=
  match y with
  | .ix => firstByte i = 0xDD
  | .iy => firstByte i = 0xFD
  | _ => controlOf i = some y

theorem uses_of_control {i : Instr} {y : Item} (h : (shapeOf i).control = some y) : Uses i y := by
  rw [control_shapeOf] at h
  cases y with
  | ix | iy => simp [controlOf_eq_some] at h
  | _ => exact h

/-- A row that is not DD-prefixed has no operand that names IX, and one that is not FD-prefixed none that names IY. -/
theorem names_imp_firstByte (i : Instr) :
    (!(shapeOf i).names .ix || firstByte i == 0xDD) = true ∧ (!(shapeOf i).names .iy || firstByte i == 0xFD) = true := by
  cases i with
  | ldRpNn rp | addHLRp rp | incRp rp | decRp rp | sbcHLRp rp | adcHLRp rp | ldIndNnRp rp | ldRpIndNn rp => cases rp <;> exact ⟨rfl, rfl⟩
  | popQq qq | pushQq qq => cases qq <;> exact ⟨rfl, rfl⟩
  | addIXPp pp | addIYPp pp => cases pp <;> exact ⟨rfl, rfl⟩
  | _ => exact ⟨rfl, rfl⟩

theorem uses_of_names {i : Instr} {x : Idx} (h : (shapeOf i).names x = true) : Uses i (idxItem x) := by
  obtain ⟨hix, hiy⟩ := names_imp_firstByte i
  cases x with
  | ix => simpa [h, Uses, idxItem] using hix
  | iy => simpa [h, Uses, idxItem] using hiy

/-- A change of one field commutes with every row that does not use it. -/
theorem exec_change {u : Change} {i : Instr} (hu : ¬ Uses i u.item) (s : State) : exec i (u.apply s) = mapNext u.apply (exec i s) := by
  rw [exec_eq_run, exec_eq_run]
  refine Shape.run_change (fun x hx he => hu ?_) (fun hc => hu (uses_of_control hc)) s
  exact he ▸ uses_of_names hx

/-! ## The obligations -/

/-- Settles O14: only EX AF,AF' and EXX use the shadow bank. -/
theorem shadowBankIsolated : Obligations.ShadowBankIsolated := by
  unfold Obligations.ShadowBankIsolated
  intro i s k haf hexx
  have hy : ¬ Uses i .shadow := by simp [Uses, controlOf_eq_some, haf, hexx]
  exact exec_change (u := .alt k) hy s

/-- Settles O15: only a DD-prefixed row has an operand that names IX, and only an FD-prefixed one an operand that names IY. -/
theorem indexRegistersIsolated : Obligations.IndexRegistersIsolated := by
  unfold Obligations.IndexRegistersIsolated
  exact ⟨fun _ s w hi => exec_change (u := .ix w) hi s, fun _ s w hi => exec_change (u := .iy w) hi s⟩

/-- The table of what the rows write agrees with `controlOf` on IM and IFF1. -/
theorem contains_writes (i : Instr) :
    (writes i).contains .im = (controlOf i == some .im) ∧ (writes i).contains .iff1 = (controlOf i == some .iff1) := by
  cases i with
  | ldRpNn rp | incRp rp | decRp rp | ldRpIndNn rp => cases rp <;> exact ⟨rfl, rfl⟩
  | popQq qq => cases qq <;> exact ⟨rfl, rfl⟩
  | _ => exact ⟨rfl, rfl⟩

theorem im_mem_writes {i : Instr} : Item.im ∈ writes i ↔ controlOf i = some .im := by
  rw [← List.contains_iff_mem, (contains_writes i).1, beq_iff_eq]

theorem iff1_mem_writes {i : Instr} : Item.iff1 ∈ writes i ↔ controlOf i = some .iff1 := by
  rw [← List.contains_iff_mem, (contains_writes i).2, beq_iff_eq]

theorem im_mem_writes_iff {i : Instr} : Item.im ∈ writes i ↔ ∃ y, i = .im0 y ∨ i = .im1 y ∨ i = .im2 y := by
  simp [im_mem_writes, controlOf_eq_some]

theorem iff1_mem_writes_iff {i : Instr} : Item.iff1 ∈ writes i ↔ i = .di ∨ i = .ei ∨ i = .reti ∨ ∃ y, i = .retn y := by
  simp [iff1_mem_writes, controlOf_eq_some]

/-- Settles O16: a row that does not use a control register commutes with a change of it, and each row that writes one gives it its value
whatever it held. -/
theorem controlRegistersIsolated : Obligations.ControlRegistersIsolated := by
  unfold Obligations.ControlRegistersIsolated
  refine ⟨?_, ?_, ?_, ?_, ?_, fun _ => im_mem_writes_iff, fun _ => iff1_mem_writes_iff, ?_, fun _ _ => rfl⟩
  · intro i s v hai hia
    have hy : ¬ Uses i .regI := by simp [Uses, controlOf_eq_some, hai, hia]
    exact exec_change (u := .i v) hy s
  · intro i s m hw
    exact exec_change (u := .im m) (fun hy => hw (im_mem_writes.mpr hy)) s
  · intro i s m hw
    obtain ⟨y, rfl | rfl | rfl⟩ := im_mem_writes_iff.mp hw <;> rfl
  · intro i s b hw
    exact exec_change (u := .iff1 b) (fun hy => hw (iff1_mem_writes.mpr hy)) s
  · intro i s b hw
    obtain rfl | rfl | rfl | ⟨y, rfl⟩ := iff1_mem_writes_iff.mp hw <;> rfl
  · intro i s b hh
    have hy : ¬ Uses i .halted := by simp [Uses, controlOf_eq_some, hh]
    exact exec_change (u := .halted b) hy s

end Sys2Proof.Machine
end

section
/-! PROOFS. Operands written and read back (spec/10_state.md R22, R23, R25, R28, spec/30_encoding.md R116). -/

namespace Sys2Proof.Machine

@[simp] theorem State.setIdx_idx (s : State) (x : Idx) (v : Word) : (s.setIdx x v).idx x = v := by cases x <;> rfl

/-- A write of an 8-bit operand is what it reads as next; in memory, where its address is plain RAM. -/
theorem State.set8_get8 {s : State} {l : Loc8} (w : s.mem.wf = true) (hram : ∀ p, l = .mem p → s.isRam (s.addr p) = true) (v : Byte) :
    (s.set8 l v).get8 l = v := by
  cases l with
  | reg r =>
    have h : (s.main.set r v).get r = v := by simp [Bank.get_set]
    exact h
  | mem p =>
    rw [State.get8, State.set8_mem_addr]
    exact State.memRead_memWrite_self s w (hram p rfl) v _
  | half x h => cases h <;> simp [State.set8, State.get8]

/-- The bits of the flag byte, from bit 7 down to bit 0 (R28). -/
theorem Flags.toByte_bits (fl : Flags) :
    fl.toByte.getLsbD 7 = fl.s ∧ fl.toByte.getLsbD 6 = fl.z ∧ fl.toByte.getLsbD 5 = fl.f5 ∧ fl.toByte.getLsbD 4 = fl.h ∧
      fl.toByte.getLsbD 3 = fl.f3 ∧ fl.toByte.getLsbD 2 = fl.pv ∧ fl.toByte.getLsbD 1 = fl.n ∧ fl.toByte.getLsbD 0 = fl.c := by
  have h : Flags.ofByte fl.toByte = fl := Flags.ofByte_toByte fl
  exact ⟨congrArg Flags.s h, congrArg Flags.z h, congrArg Flags.f5 h, congrArg Flags.h h, congrArg Flags.f3 h, congrArg Flags.pv h,
    congrArg Flags.n h, congrArg Flags.c h⟩

/-- Settles O29: operands read back, and every view of a register is the register's own bits. -/
theorem operandsReadBack : Obligations.OperandsReadBack := by
  unfold Obligations.OperandsReadBack
  refine ⟨fun _ _ v w hram => State.set8_get8 w hram v, State.set16_get16, ?_, ?_, ?_, ?_, ?_⟩
  · exact fun s w => ⟨rfl, rfl, rfl, rfl, rfl, rfl, rfl, rfl⟩
  · exact fun s v => ⟨rfl, rfl, rfl, rfl, rfl, rfl⟩
  · intro s x v
    simp [State.set8]
  · exact fun v => ⟨rfl, rfl, rfl, rfl, rfl, rfl, rfl, rfl, Flags.toByte_ofByte v⟩
  · exact fun s fl => ⟨Flags.ofByte_toByte fl, Flags.toByte_bits fl⟩

end Sys2Proof.Machine
end

section
/-! PROOFS. The fetch reads what the stores wrote (spec/20_memory.md R75, spec/00_scope.md R12). -/

namespace Sys2Proof.Machine

/-- Different offsets from one address are different addresses, the wrap past 0xFFFF included. -/
theorem word_add_ne {m n : Word} (h : m ≠ n) (a : Word) : a + m ≠ a + n :=
  fun e => h ((BitVec.add_right_inj a).mp e)

theorem word_ne_add {n : Word} (h : 0 ≠ n) (a : Word) : a ≠ a + n := by
  simpa using word_add_ne h a

/-- Stores to RAM at an address and the three after it: each byte reads as stored, since no later store goes to its address. -/
theorem State.memRead_memWrite_four {s t : State} {a : Word} {b0 b1 b2 b3 : Byte} (w : s.mem.wf = true)
    (h0 : s.isRam a = true) (h1 : s.isRam (a + 1) = true) (h2 : s.isRam (a + 2) = true) (h3 : s.isRam (a + 3) = true)
    (ht : t = (((s.memWrite a b0).memWrite (a + 1) b1).memWrite (a + 2) b2).memWrite (a + 3) b3) :
    (∀ acc, t.memRead acc a = b0) ∧ (∀ acc, t.memRead acc (a + 1) = b1) ∧
      (∀ acc, t.memRead acc (a + 2) = b2) ∧ (∀ acc, t.memRead acc (a + 3) = b3) := by
  subst ht
  have w1 := State.memWrite_wf s w a b0
  have w2 := State.memWrite_wf _ w1 (a + 1) b1
  have w3 := State.memWrite_wf _ w2 (a + 2) b2
  refine ⟨fun acc => ?_, fun acc => ?_, fun acc => ?_, fun acc => ?_⟩
  · rw [State.memRead_memWrite_other _ (word_ne_add (by decide) a), State.memRead_memWrite_other _ (word_ne_add (by decide) a),
      State.memRead_memWrite_other _ (word_ne_add (by decide) a), State.memRead_memWrite_self _ w h0]
  · rw [State.memRead_memWrite_other _ (word_add_ne (by decide) a), State.memRead_memWrite_other _ (word_add_ne (by decide) a),
      State.memRead_memWrite_self _ w1 (by simpa using h1)]
  · rw [State.memRead_memWrite_other _ (word_add_ne (by decide) a), State.memRead_memWrite_self _ w2 (by simpa using h2)]
  · exact State.memRead_memWrite_self _ w3 (by simpa using h3) b3 acc

/-- Settles O8: each of the four bytes that the fetch reads is the one stored at its address. -/
theorem storedBytesAreFetched : Obligations.StoredBytesAreFetched := by
  unfold Obligations.StoredBytesAreFetched
  intro s b0 b1 b2 b3 w h0 h1 h2 h3
  obtain ⟨r0, r1, r2, r3⟩ := State.memRead_memWrite_four (b0 := b0) (b1 := b1) (b2 := b2) (b3 := b3) w h0 h1 h2 h3 rfl
  simp only [decodeAt, State.memWrite_pc, r0, r1, r2, r3]

end Sys2Proof.Machine
end

section
/-! PROOFS. The decoder's tables, row by row (spec/30_encoding.md R101, R110 to R112, R117 to R122, spec/40_dispatch.md R136, R138): each table
depends on an opcode byte through its fields only, so a fact about a table is a case split over the fields. -/

namespace Sys2Proof.Machine

/-! ## Immediate words and opcode bytes -/

@[simp] theorem lowByte_nnOf (lo hi : Byte) : lowByte (nnOf lo hi) = lo := loByte_word hi lo

@[simp] theorem highByte_nnOf (lo hi : Byte) : highByte (nnOf lo hi) = hi := hiByte_word hi lo

@[simp] theorem nnOf_lowByte_highByte (nn : Word) : nnOf (lowByte nn) (highByte nn) = nn := word_hiByte_loByte nn

/-- The number of a field `x`, as `opByte` takes it. -/
def quadNum (x : Quad) : Nat :=
  match x with
  | .q0 => 0
  | .q1 => 1
  | .q2 => 2
  | .q3 => 3

/-- A byte is made of its fields (R101). -/
theorem opByte_fields : ∀ b : Byte, opByte (quadNum (fieldX b)) (fieldY b) (fieldZ b) = b := by decide

/-- The case split of a byte into its fields. -/
theorem byte_cases {P : Byte → Prop} (fields : ∀ x y z, P (opByte (quadNum x) y z)) (b : Byte) : P b :=
  opByte_fields b ▸ fields _ _ _

/-! ## What follows an instruction -/

/-- Only the two wasted prefixes ask something of the byte after them (R136). -/
theorem followedBy_iff {i : Instr} {rest : List Byte} :
    followedBy i rest = true ↔ (i.format = .xyw → ∃ b t, rest = b :: t ∧ b ≠ 0xCB ∧ recognised b = false) := by
  by_cases hx : i.format = .xyw
  · cases i with
    | wastedDD | wastedFD => cases rest <;> simp [followedBy, hx]
    | _ => cases hx
  · unfold followedBy
    split
    · exact absurd rfl hx
    · exact absurd rfl hx
    · simp [hx]

theorem followedBy_append {i : Instr} {rest : List Byte} (h : followedBy i rest = true) (bs : List Byte) :
    followedBy i (rest ++ bs) = true := by
  rw [followedBy_iff] at h ⊢
  intro hx
  obtain ⟨b, t, rfl, hb⟩ := h hx
  exact ⟨b, t ++ bs, rfl, hb⟩

/-! ## What it is to read an instruction from four bytes -/

/-- The instruction stands at the start of the four bytes: it is well formed, the bytes of its length are its encoding, the length is the one
the first two bytes tell, and the bytes after the first are admitted after it. -/
structure ReadsAs (i : Instr) (b0 b1 b2 b3 : Byte) : Prop where
  wf : i.wf = true
  bytes : [b0, b1, b2, b3].take i.length = encode i
  length : i.length = lengthFrom b0 b1
  followed : followedBy i [b1, b2, b3] = true

section
variable {i : Instr} {b0 b1 b2 b3 : Byte}

/-- A row of three bytes that ends in an immediate word. -/
theorem ReadsAs.of_word3 (hw : i.wf = true) (hl : i.length = 3) (he : encode i = [b0, lowByte (nnOf b1 b2), highByte (nnOf b1 b2)])
    (hfrom : lengthFrom b0 b1 = 3) (hf : followedBy i [b1, b2, b3] = true) : ReadsAs i b0 b1 b2 b3 where
  wf := hw
  bytes := by simp [hl, he]
  length := hl.trans hfrom.symm
  followed := hf

/-- A row of four bytes that ends in an immediate word. -/
theorem ReadsAs.of_word4 (hw : i.wf = true) (hl : i.length = 4) (he : encode i = [b0, b1, lowByte (nnOf b2 b3), highByte (nnOf b2 b3)])
    (hfrom : lengthFrom b0 b1 = 4) (hf : followedBy i [b1, b2, b3] = true) : ReadsAs i b0 b1 b2 b3 where
  wf := hw
  bytes := by simp [hl, he]
  length := hl.trans hfrom.symm
  followed := hf

/-! ## The tables without an index register -/

/-- The main table (R118): the rows with an immediate word, and every other row. -/
theorem readsAs_decodeMain (h : decodeMain b0 b1 b2 = some i) : ReadsAs i b0 b1 b2 b3 := by
  induction b0 using byte_cases with | fields x y z =>
  cases x with
  | q0 =>
    cases z with
    | o1 =>
      cases y with
      | o0 | o2 | o4 | o6 => cases h; exact .of_word3 rfl rfl rfl rfl rfl
      | o1 | o3 | o5 | o7 => cases h; exact ⟨rfl, rfl, rfl, rfl⟩
    | o2 =>
      cases y with
      | o4 | o5 | o6 | o7 => cases h; exact .of_word3 rfl rfl rfl rfl rfl
      | o0 | o1 | o2 | o3 => cases h; exact ⟨rfl, rfl, rfl, rfl⟩
    | _ => cases y <;> cases h <;> exact ⟨rfl, rfl, rfl, rfl⟩
  | q1 | q2 => cases y <;> cases z <;> cases h <;> exact ⟨rfl, rfl, rfl, rfl⟩
  | q3 =>
    cases z with
    | o2 | o4 => cases y <;> cases h <;> exact .of_word3 rfl rfl rfl rfl rfl
    | o3 =>
      cases y with
      | o0 => cases h; exact .of_word3 rfl rfl rfl rfl rfl
      | _ => cases h <;> exact ⟨rfl, rfl, rfl, rfl⟩
    | o5 =>
      cases y with
      | o1 => cases h; exact .of_word3 rfl rfl rfl rfl rfl
      | _ => cases h <;> exact ⟨rfl, rfl, rfl, rfl⟩
    | _ => cases y <;> cases h <;> exact ⟨rfl, rfl, rfl, rfl⟩

/-- The main table has a row for every byte but the four prefixes (R118). -/
theorem eq_prefixByte_of_decodeMain_none (h : decodeMain b0 b1 b2 = none) : b0 = 0xCB ∨ b0 = 0xDD ∨ b0 = 0xED ∨ b0 = 0xFD := by
  induction b0 using byte_cases with | fields x y z =>
  cases x <;> cases y <;> cases z <;> cases h <;> decide

/-- The CB table (R119). -/
theorem readsAs_decodeCB (b1 b2 b3 : Byte) : ReadsAs (decodeCB b1) 0xCB b1 b2 b3 := by
  induction b1 using byte_cases with | fields x y z =>
  cases x <;> cases y <;> cases z <;> exact ⟨rfl, rfl, rfl, rfl⟩

/-- The ED table (R120): the rows with an immediate word stand in one column. -/
theorem readsAs_decodeED (b1 b2 b3 : Byte) : ReadsAs (decodeED b1 b2 b3) 0xED b1 b2 b3 := by
  induction b1 using byte_cases with | fields x y z =>
  cases x with
  | q0 | q2 | q3 => cases y <;> cases z <;> exact ⟨rfl, rfl, rfl, rfl⟩
  | q1 =>
    cases z with
    | o3 => cases y <;> exact .of_word4 rfl rfl rfl rfl rfl
    | _ => cases y <;> exact ⟨rfl, rfl, rfl, rfl⟩

end

/-! ## The tables after DD and FD, for either index register -/

/-- The byte that selects an index register: DD or FD (R25). -/
def idxPrefix (x : Idx) : Byte :=
  match x with
  | .ix => 0xDD
  | .iy => 0xFD

/-- The table of the recognised bytes after it. -/
def decodeIdx (x : Idx) : Byte → Byte → Byte → Option Instr :=
  match x with
  | .ix => decodeDD
  | .iy => decodeFD

/-- The table after it and CB. -/
def decodeIdxCB (x : Idx) : Byte → Byte → Instr :=
  match x with
  | .ix => decodeDDCB
  | .iy => decodeFDCB

/-- The instruction that it is when it is wasted. -/
def wastedIdx (x : Idx) : Instr :=
  match x with
  | .ix => .wastedDD
  | .iy => .wastedFD

section
variable (p : Idx) (b1 b2 b3 : Byte)

/-- The dispatch after DD or FD (R136). -/
theorem decode4_idxPrefix :
    decode4 (idxPrefix p) b1 b2 b3 = if b1 = 0xCB then decodeIdxCB p b2 b3 else (decodeIdx p b1 b2 b3).getD (wastedIdx p) := by
  cases p with
  | ix =>
    change dispatchDD b1 b2 b3 = _
    rw [dispatchDD, decodeIdx]
    cases decodeDD b1 b2 b3 <;> rfl
  | iy =>
    change dispatchFD b1 b2 b3 = _
    rw [dispatchFD, decodeIdx]
    cases decodeFD b1 b2 b3 <;> rfl

/-- The recognised bytes are those with a row (R138). -/
theorem decodeIdx_isSome : (decodeIdx p b1 b2 b3).isSome = recognised b1 := by
  induction b1 using byte_cases with | fields x y z =>
  cases p <;> cases x <;> cases y <;> cases z <;> rfl

/-- The tables DDCB and FDCB (R122). -/
theorem readsAs_decodeIdxCB : ReadsAs (decodeIdxCB p b2 b3) (idxPrefix p) 0xCB b2 b3 := by
  induction b3 using byte_cases with | fields x y z =>
  cases p <;> cases x <;> cases y <;> cases z <;> exact ⟨rfl, rfl, rfl, rfl⟩

variable {p b1 b2 b3}

/-- The rows of the recognised bytes (R121): those with an immediate word, and every other. -/
theorem readsAs_decodeIdx {i : Instr} (h : decodeIdx p b1 b2 b3 = some i) : ReadsAs i (idxPrefix p) b1 b2 b3 := by
  induction b1 using byte_cases with | fields x y z =>
  cases x with
  | q0 =>
    cases z with
    | o1 =>
      cases y with
      | o4 => cases p <;> cases h <;> exact .of_word4 rfl rfl rfl rfl rfl
      | _ => cases p <;> cases h <;> exact ⟨rfl, rfl, rfl, rfl⟩
    | o2 => cases y <;> cases p <;> cases h <;> exact .of_word4 rfl rfl rfl rfl rfl
    | _ => cases y <;> cases p <;> cases h <;> exact ⟨rfl, rfl, rfl, rfl⟩
  | q1 | q2 | q3 => cases y <;> cases z <;> cases p <;> cases h <;> exact ⟨rfl, rfl, rfl, rfl⟩

/-- After DD or FD the bytes that make an instruction longer are all recognised, so that any other byte leaves a length of 1 (R117). -/
theorem lengthFrom_of_unrecognised (hcb : b1 ≠ 0xCB) (hr : recognised b1 = false) : lengthFrom (idxPrefix p) b1 = 1 := by
  have hl {l : List Byte} (h : l.all recognised = true) : ¬ l.contains b1 = true := fun hm =>
    Bool.eq_false_iff.mp hr (List.all_eq_true.mp h b1 (List.contains_iff_mem.mp hm))
  cases p <;>
  · unfold lengthFrom
    rw [if_neg (by decide), if_neg (by decide), if_pos (by decide), if_neg hcb, if_neg (hl rfl), if_neg (hl rfl), if_neg (by simp [hr])]

/-- A wasted DD or FD (R139). -/
theorem readsAs_wastedIdx (hcb : b1 ≠ 0xCB) (hr : recognised b1 = false) : ReadsAs (wastedIdx p) (idxPrefix p) b1 b2 b3 where
  wf := by cases p <;> rfl
  bytes := by cases p <;> rfl
  length := by
    rw [lengthFrom_of_unrecognised hcb hr]
    cases p <;> rfl
  followed := followedBy_iff.mpr fun _ => ⟨b1, [b2, b3], rfl, hcb, hr⟩

/-- A byte that is neither CB nor recognised wastes the DD or FD before it (R136). -/
theorem decode4_of_unrecognised (hcb : b1 ≠ 0xCB) (hr : recognised b1 = false) : decode4 (idxPrefix p) b1 b2 b3 = wastedIdx p := by
  have hn : decodeIdx p b1 b2 b3 = none := by simpa [hr] using decodeIdx_isSome p b1 b2 b3
  rw [decode4_idxPrefix, if_neg hcb, hn]
  rfl

end

/-! ## The four bytes -/

section
variable {i : Instr} {b0 b1 b2 b3 : Byte}

theorem decode4_of_decodeMain (h : decodeMain b0 b1 b2 = some i) : decode4 b0 b1 b2 b3 = i := by
  unfold decode4
  split
  · next hb => subst hb; cases h
  split
  · next hb => subst hb; cases h
  split
  · next hb => subst hb; cases h
  rw [h]

theorem readsAs_decode4_idxPrefix (p : Idx) : ReadsAs (decode4 (idxPrefix p) b1 b2 b3) (idxPrefix p) b1 b2 b3 := by
  rw [decode4_idxPrefix]
  split
  · next hcb =>
    subst hcb
    exact readsAs_decodeIdxCB p b2 b3
  · next hcb =>
    cases hd : decodeIdx p b1 b2 b3 with
    | some i => exact readsAs_decodeIdx hd
    | none =>
      refine readsAs_wastedIdx hcb ?_
      rw [← decodeIdx_isSome p b1 b2 b3, hd]
      rfl

/-- What four bytes decode to stands at their start: by the main table, or by the table that one of the four prefixes selects. -/
theorem readsAs_decode4 (b0 b1 b2 b3 : Byte) : ReadsAs (decode4 b0 b1 b2 b3) b0 b1 b2 b3 := by
  cases hm : decodeMain b0 b1 b2 with
  | some i =>
    rw [decode4_of_decodeMain hm]
    exact readsAs_decodeMain hm
  | none =>
    obtain rfl | rfl | rfl | rfl := eq_prefixByte_of_decodeMain_none hm
    · exact readsAs_decodeCB b1 b2 b3
    · exact readsAs_decode4_idxPrefix .ix
    · exact readsAs_decodeED b1 b2 b3
    · exact readsAs_decode4_idxPrefix .iy

end

end Sys2Proof.Machine
end

section
/-! PROOFS. Decoding and encoding are inverse (spec/30_encoding.md R117, R123, R124). -/

namespace Sys2Proof.Machine

/-! ## Lengths -/

theorem encode_length (i : Instr) : (encode i).length = i.length := by
  cases i <;> rfl

theorem fetchCount_le_four (i : Instr) : i.fetchCount ≤ 4 := by
  unfold Instr.fetchCount Instr.length
  cases i.format <;> decide

theorem length_le_fetchCount (i : Instr) : i.length ≤ i.fetchCount := by
  unfold Instr.fetchCount Instr.length
  cases i.format <;> decide

/-! ## Lists of bytes -/

/-- The instruction that `decode` looks for at the start of a list, a byte past its end read as 0. -/
def firstInstr (bs : List Byte) : Instr := decode4 (bs.getD 0 0) (bs.getD 1 0) (bs.getD 2 0) (bs.getD 3 0)

theorem decode_eq_ok_iff {bs rest : List Byte} {i : Instr} :
    decode bs = .ok (i, rest) ↔ firstInstr bs = i ∧ i.fetchCount ≤ bs.length ∧ bs.drop i.length = rest := by
  change (if bs.length < (firstInstr bs).fetchCount then Except.error Reject.truncated
    else .ok (firstInstr bs, bs.drop (firstInstr bs).length)) = .ok (i, rest) ↔ _
  split
  · next hlt =>
    simp only [reduceCtorEq, false_iff]
    rintro ⟨rfl, hle, -⟩
    omega
  · next hge =>
    simp only [Except.ok.injEq, Prod.mk.injEq]
    constructor
    · rintro ⟨rfl, rfl⟩
      exact ⟨rfl, by omega, rfl⟩
    · rintro ⟨rfl, -, rfl⟩
      exact ⟨rfl, rfl⟩

/-- The first four bytes of a list, filled up with zeros, are what its first instruction is decoded from. -/
theorem firstInstr_eq_decode4 (bs : List Byte) :
    ∃ b0 b1 b2 b3 t, bs ++ [0, 0, 0, 0] = b0 :: b1 :: b2 :: b3 :: t ∧ firstInstr bs = decode4 b0 b1 b2 b3 :=
  match bs with
  | [] | [_] | [_, _] | [_, _, _] | _ :: _ :: _ :: _ :: _ => ⟨_, _, _, _, _, rfl, rfl⟩

/-! ## Decoding an encoding -/

/-- Four bytes that an instruction's encoding starts decode to it: by the instruction's kind of operands, each row's own bytes are read back.
An immediate word is first written as its two bytes. -/
theorem decode4_of_encode {i : Instr} {b0 b1 b2 b3 : Byte} {t rest : List Byte} (hw : i.wf = true) (hf : followedBy i rest = true)
    (h : b0 :: b1 :: b2 :: b3 :: t = encode i ++ rest) : decode4 b0 b1 b2 b3 = i := by
  cases i with
  | wastedDD =>
    cases h
    obtain ⟨_, _, ⟨⟩, hcb, hu⟩ := followedBy_iff.mp hf rfl
    exact decode4_of_unrecognised (p := .ix) hcb hu
  | wastedFD =>
    cases h
    obtain ⟨_, _, ⟨⟩, hcb, hu⟩ := followedBy_iff.mp hf rfl
    exact decode4_of_unrecognised (p := .iy) hcb hu
  | unsupportedED00 op | unsupportedED80 op | unsupportedEDA4 op | unsupportedEDC0 op =>
    induction op using byte_cases with | fields x y z =>
    cases h
    cases x <;> cases y <;> cases z <;> cases hw <;> rfl
  | retn k | im0 k | im1 k | im2 k | edNop k =>
    cases h
    cases k <;> cases hw <;> rfl
  | ldIndNnHL nn | ldIndNnA nn | ldHLIndNn nn | ldAIndNn nn | jpNn nn | callNn nn | ldIXNn nn | ldIndNnIX nn | ldIXIndNn nn | ldIYNn nn
  | ldIndNnIY nn | ldIYIndNn nn =>
    cases h
    conv_rhs => rw [← nnOf_lowByte_highByte nn]
    rfl
  | ldRpNn k nn | jpCcNn k nn | callCcNn k nn | ldIndNnRp k nn | ldRpIndNn k nn =>
    cases h
    conv_rhs => rw [← nnOf_lowByte_highByte nn]
    cases k <;> rfl
  | ldRR k j | bitBR k j | resBR k j | setBR k j | bitBIXd k _ j | resBIXdR k _ j | setBIXdR k _ j | bitBIYd k _ j | resBIYdR k _ j
  | setBIYdR k _ j =>
    cases h
    cases k <;> cases j <;> rfl
  | jrCc k _ | addHLRp k | incRp k | decRp k | incR k | decR k | ldRN k _ | ldRIndHL k | ldIndHLR k | addAR k | adcAR k | subR k | sbcAR k
  | andR k | xorR k | orR k | cpR k | retCc k | popQq k | pushQq k | rst k | rlcR k | rrcR k | rlR k | rrR k | slaR k | sraR k | sllR k
  | srlR k | bitBIndHL k | resBIndHL k | setBIndHL k | inRPortC k | outPortCR k | sbcHLRp k | adcHLRp k | neg k | addIXPp k | addIYPp k
  | rlcIXdR _ k | rrcIXdR _ k | rlIXdR _ k | rrIXdR _ k | slaIXdR _ k | sraIXdR _ k | sllIXdR _ k | srlIXdR _ k | resBIXd k _
  | setBIXd k _ | rlcIYdR _ k | rrcIYdR _ k | rlIYdR _ k | rrIYdR _ k | slaIYdR _ k | sraIYdR _ k | sllIYdR _ k | srlIYdR _ k
  | resBIYd k _ | setBIYd k _ =>
    cases h
    cases k <;> rfl
  | _ =>
    cases h
    rfl

theorem firstInstr_encode {i : Instr} {rest : List Byte} (hw : i.wf = true) (hf : followedBy i rest = true) :
    firstInstr (encode i ++ rest) = i := by
  obtain ⟨b0, b1, b2, b3, t, hbs, he⟩ := firstInstr_eq_decode4 (encode i ++ rest)
  rw [List.append_assoc] at hbs
  rw [he]
  exact decode4_of_encode hw (followedBy_append hf _) hbs.symm

/-- An encoding and what may follow it are long enough to be fetched. -/
theorem fetchCount_le_length {i : Instr} {rest : List Byte} (hf : followedBy i rest = true) : i.fetchCount ≤ (encode i ++ rest).length := by
  rw [List.length_append, encode_length]
  by_cases hx : i.format = .xyw
  · obtain ⟨-, hn, hl⟩ := wasted_cases hx
    obtain ⟨b, t, rfl, -⟩ := followedBy_iff.mp hf hx
    rw [hn, hl, List.length_cons]
    omega
  · rw [fetchCount_eq_length hx]
    omega

theorem decode_encode {i : Instr} {rest : List Byte} (hw : i.wf = true) (hf : followedBy i rest = true) :
    decode (encode i ++ rest) = .ok (i, rest) := by
  refine decode_eq_ok_iff.mpr ⟨firstInstr_encode hw hf, fetchCount_le_length hf, ?_⟩
  rw [← encode_length, List.drop_left]

/-- Settles O1: the row read from the encoding is the instruction, and no byte after it is taken. -/
theorem decodeOfEncode : Obligations.DecodeOfEncode := by
  unfold Obligations.DecodeOfEncode
  exact fun _ _ hw hf => decode_encode hw hf

/-! ## Encoding what was decoded -/

theorem encode_firstInstr {bs : List Byte} (hn : (firstInstr bs).length ≤ bs.length) :
    encode (firstInstr bs) = bs.take (firstInstr bs).length := by
  obtain ⟨b0, b1, b2, b3, t, hbs, he⟩ := firstInstr_eq_decode4 bs
  have hr : ReadsAs (firstInstr bs) b0 b1 b2 b3 := he ▸ readsAs_decode4 b0 b1 b2 b3
  have h4 : (firstInstr bs).length ≤ [b0, b1, b2, b3].length := (length_le_fetchCount _).trans (fetchCount_le_four _)
  calc encode (firstInstr bs) = [b0, b1, b2, b3].take (firstInstr bs).length := hr.bytes.symm
    _ = ([b0, b1, b2, b3] ++ t).take (firstInstr bs).length := (List.take_append_of_le_length h4).symm
    _ = (bs ++ [0, 0, 0, 0]).take (firstInstr bs).length := by rw [hbs]; rfl
    _ = bs.take (firstInstr bs).length := List.take_append_of_le_length hn

theorem followedBy_firstInstr {bs : List Byte} (hn : (firstInstr bs).fetchCount ≤ bs.length) :
    followedBy (firstInstr bs) (bs.drop (firstInstr bs).length) = true := by
  rw [followedBy_iff]
  intro hx
  obtain ⟨-, hfetch, hl⟩ := wasted_cases hx
  match bs with
  | [] | [_] => simp [hfetch] at hn
  | b0 :: b1 :: bs =>
    have hr : ReadsAs (firstInstr (b0 :: b1 :: bs)) b0 b1 (bs.getD 0 0) (bs.getD 1 0) := readsAs_decode4 _ _ _ _
    obtain ⟨_, _, ⟨⟩, hb⟩ := followedBy_iff.mp hr.followed hx
    exact ⟨b1, bs, by rw [hl]; rfl, hb⟩

theorem firstInstr_wf (bs : List Byte) : (firstInstr bs).wf = true := (readsAs_decode4 _ _ _ _).wf

/-- Settles O2: the bytes that the decoder drops are as many as the instruction is long, and those are its encoding. -/
theorem encodeOfDecode : Obligations.EncodeOfDecode := by
  unfold Obligations.EncodeOfDecode
  intro bs i rest h
  obtain ⟨rfl, hn, rfl⟩ := decode_eq_ok_iff.mp h
  refine ⟨firstInstr_wf bs, ?_, followedBy_firstInstr hn⟩
  rw [encode_firstInstr ((length_le_fetchCount _).trans hn), List.take_append_drop]

/-- Settles O6: the length is part of what it is to read an instruction, and four bytes are as many as any fetch takes. -/
theorem lengthFromFirstBytes : Obligations.LengthFromFirstBytes := by
  unfold Obligations.LengthFromFirstBytes
  exact ⟨fun b0 b1 b2 b3 => (readsAs_decode4 b0 b1 b2 b3).length,
    fun bs h => ⟨_, _, decode_eq_ok_iff.mpr ⟨rfl, (fetchCount_le_four _).trans h, rfl⟩⟩⟩

/-- Settles O3: each word is the encoding of its instruction, and so decodes to it. -/
theorem decodeManualWords : Obligations.DecodeManualWords := by
  unfold Obligations.DecodeManualWords
  exact ⟨decode_encode (i := .ldRR .a .b) rfl rfl, decode_encode (i := .ldRpNn .sp 0xFFF0) rfl rfl,
    decode_encode (i := .callCcNn .z 0x4000) rfl rfl, decode_encode (i := .bitBR .o7 .a) rfl rfl,
    decode_encode (i := .ldRpIndNn .sp 0x5000) rfl rfl, decode_encode (i := .ldir) rfl rfl, decode_encode (i := .ldIXdN 0x02 0x41) rfl rfl,
    decode_encode (i := .ldIYdB 0x05) rfl rfl, decode_encode (i := .bitBIXd .o0 0xFE .o6) rfl rfl,
    decode_encode (i := .resBIYdR .o0 0x00 .b) rfl rfl, decode_encode (i := .wastedDD) rfl rfl⟩

end Sys2Proof.Machine
end

section
/-! PROOFS. Where the dispatcher's fallbacks run and what they do: the wasted prefixes and the unsupported-ED hook (spec/40_dispatch.md R134 to
R139), and the step that runs the instruction at PC (R130, R131). -/

namespace Sys2Proof.Machine

/-! ## The bytes of the fallbacks -/

theorem wastedIdx_format (p : Idx) : (wastedIdx p).format = .xyw := by cases p <;> rfl

/-- DD or FD is wasted exactly before a byte that is neither CB nor recognised (R136, R139). -/
theorem decode4_eq_wastedIdx_iff (p : Idx) (b1 b2 b3 : Byte) :
    decode4 (idxPrefix p) b1 b2 b3 = wastedIdx p ↔ b1 ≠ 0xCB ∧ recognised b1 = false := by
  constructor
  · intro h
    have hr : ReadsAs (wastedIdx p) (idxPrefix p) b1 b2 b3 := h ▸ readsAs_decode4 _ _ _ _
    obtain ⟨_, _, ⟨⟩, hb⟩ := followedBy_iff.mp hr.followed (wastedIdx_format p)
    exact hb
  · exact fun ⟨hcb, hr⟩ => decode4_of_unrecognised hcb hr

/-- Settles O4, for DD and for FD by the one fact about both. -/
theorem wastedPrefixBytes : Obligations.WastedPrefixBytes := by
  unfold Obligations.WastedPrefixBytes
  exact ⟨decode4_eq_wastedIdx_iff .ix, decode4_eq_wastedIdx_iff .iy, rfl, by decide⟩

theorem ReadsAs.firstByte_eq {i : Instr} {b0 b1 b2 b3 : Byte} (h : ReadsAs i b0 b1 b2 b3) : firstByte i = b0 := by
  have hl : i.length ≠ 0 := by
    unfold Instr.length
    cases i.format <;> decide
  obtain ⟨n, hn⟩ := Nat.exists_eq_succ_of_ne_zero hl
  rw [firstByte, ← h.bytes, hn]
  rfl

/-- The four hook rows: an ED-prefixed no-operation of two bytes. -/
theorem hook_cases {i : Instr} (h : form i = .hook) :
    shapeOf i = .noOperation 8 ∧ firstByte i = 0xED ∧ i.fetchCount = 2 ∧ i.refreshCount = 2 := by
  cases i with
  | unsupportedED00 | unsupportedED80 | unsupportedEDA4 | unsupportedEDC0 => exact ⟨rfl, rfl, rfl, rfl⟩
  | _ => cases h

/-- The ED table has a hook row for the bytes of R134 and no other. -/
theorem form_decodeED (b1 b2 b3 : Byte) : (form (decodeED b1 b2 b3) == .hook) = unsupportedEd b1.toNat := by
  induction b1 using byte_cases with | fields x y z =>
  cases x <;> cases y <;> cases z <;> rfl

/-- Settles O5: a hook row starts with ED, and after ED the table decides. -/
theorem unsupportedEdBytes : Obligations.UnsupportedEdBytes := by
  unfold Obligations.UnsupportedEdBytes
  intro b0 b1 b2 b3
  have hED : form (decode4 0xED b1 b2 b3) = .hook ↔ unsupportedEd b1.toNat = true := by
    rw [← form_decodeED b1 b2 b3, beq_iff_eq]
    rfl
  constructor
  · intro h
    obtain ⟨-, hfirst, -, -⟩ := hook_cases h
    obtain rfl : 0xED = b0 := hfirst.symm.trans (readsAs_decode4 b0 b1 b2 b3).firstByte_eq
    exact ⟨rfl, hED.mp h⟩
  · rintro ⟨rfl, hu⟩
    exact hED.mpr hu

/-! ## What the fallbacks do -/

/-- What a wasted DD or FD leaves in R, from the count before the fetch (R139, D5). -/
def wastedR (s : State) : Byte :=
  match s.params.fallbackR with
  | .source => refreshAdd s.r 2
  | .silicon => refreshAdd s.r 1

/-- Counting R 128 times brings it back: this is how the fallback takes one count back (R139). -/
theorem refreshAdd_add_128 (r : Byte) (k : Nat) : refreshAdd r (k + 128) = refreshAdd r k := by
  apply BitVec.eq_of_toNat_eq
  simp only [refreshAdd_toNat]
  omega

/-- The execute call of a wasted DD or FD (R139): of the two bytes fetched PC steps back over one. -/
theorem exec_wasted {i : Instr} (h : i.format = .xyw) (s : State) :
    exec i (fetched i s) = .next ({ s with pc := s.pc + 1, r := wastedR s, intInhibit := .afterPrefix }.done plainRecord 4) := by
  obtain ⟨hs, hn, -⟩ := wasted_cases h
  have hcount : i.refreshCount = 2 := by rw [Instr.refreshCount, h]
  have hpc : s.pc + BitVec.ofNat 16 2 - 1 = s.pc + 1 := by bv_omega
  have hr : refreshAdd (refreshAdd s.r 2) 127 = refreshAdd s.r 1 := by
    rw [refreshAdd_refreshAdd]
    exact refreshAdd_add_128 s.r 1
  rw [exec_eq_run, hs]
  simp only [Shape.run, wastedPrefix, fetched_pc, fetched_r, fetched_params, hn, hcount, hpc, hr]
  rfl

/-- The inhibit of a wasted DD or FD covers the next boundary, whatever the host requests (R404). -/
theorem boundary_of_afterPrefix {s : State} (h : s.intInhibit = .afterPrefix) : boundary s.sample = .run := by
  simp [boundary, h]

/-- Settles O51: the hook is a no-operation of two bytes, and a wasted DD or FD leaves the inhibit under which the next boundary
accepts nothing. -/
theorem fallbackForms : Obligations.FallbackForms := by
  unfold Obligations.FallbackForms
  constructor
  · intro i s h
    obtain ⟨hs, -, hn, hr⟩ := hook_cases h
    have he (u : State) : exec i u = .next (u.done plainRecord 8) := by
      rw [exec_eq_run, hs]
      rfl
    refine ⟨?_, he s⟩
    rw [he, fetched, hn, hr]
    rfl
  · intro i s h
    have hx : i.format = .xyw := by obtain rfl | rfl := h <;> rfl
    refine ⟨_, exec_wasted hx s, rfl, fun hp => ?_, fun hp => ?_, boundary_of_afterPrefix rfl⟩ <;> simp [State.done, wastedR, hp]

/-! ## The step -/

/-- An engine that is not halted and accepts nothing runs the instruction at PC (R130, R131). -/
theorem step_of_running {s : State} (hh : s.halted = false) (hb : boundary s.sample = .run) :
    step s = exec (decodeAt s.sample.clearInhibit) (fetched (decodeAt s.sample.clearInhibit) s.sample.clearInhibit) := by
  simp [step, runNext, hh, hb]

/-- Settles O7: what `decode` reads from the four bytes is what the step runs. -/
theorem stepRunsTheDecodedInstruction : Obligations.StepRunsTheDecodedInstruction := by
  unfold Obligations.StepRunsTheDecodedInstruction
  rintro s _ i rest rfl hb hh hd
  obtain ⟨hi, -, -⟩ := decode_eq_ok_iff.mp hd
  have hat : decodeAt s.sample.clearInhibit = i := hi
  rw [step_of_running hh hb, hat]
  rfl

end Sys2Proof.Machine
end

section
/-! PROOFS. The record, the port access and the T-states of every execute call, shape by shape (spec/40_dispatch.md R144 to R146,
spec/60_exceptions.md R400, spec/70_reset_and_hazards.md R455). -/

namespace Sys2Proof.Machine

/-! ## The record and the port access -/

/-- The record that a row of the shape sends (R144). -/
def Shape.record (sh : Shape) (s : State) : Notification :=
  match sh with
  | .ret | .retInt => ⟨true, false, false, false⟩
  | .retIf cc => ⟨condHolds cc s.flags, false, false, false⟩
  | .halt => ⟨false, true, false, false⟩
  | .load16Imm _ _ ldSp _ | .load16Mem _ _ ldSp _ => ⟨false, false, ldSp, false⟩
  | .loadSp _ _ => ⟨false, false, true, false⟩
  | .ei | .di => ⟨false, false, false, true⟩
  | _ => plainRecord

theorem record_shapeOf (i : Instr) (s : State) : (shapeOf i).record s = recordOf i s := by
  cases i <;> rfl

/-- The record leaves the host's answer to a port read. -/
@[simp] theorem State.notifyPlain_portValue (s : State) (p : Byte) : s.notifyPlain.portValue p = s.portValue p := rfl

/-- The port access of one iteration of a block instruction (R367, R371). -/
def BlockOp.port (o : BlockOp) (s : State) : Option Event :=
  match o with
  | .move | .search => none
  | .input => some (.portRead s.main.c (s.portValue s.main.c))
  | .output => some (.portWrite s.main.c (s.memRead .data0 s.main.hl))

/-- The port access of a row of the shape (R146, R360 to R374). -/
def Shape.port (sh : Shape) (s : State) : Option Event :=
  match sh with
  | .inputA n => some (.portRead n (s.portValue n))
  | .inputReg _ | .inputFlags => some (.portRead s.main.c (s.portValue s.main.c))
  | .outputA n => some (.portWrite n s.main.a)
  | .outputReg r => some (.portWrite s.main.c (s.reg r))
  | .outputZero => some (.portWrite s.main.c 0x00)
  | .blockOnce o _ | .blockRepeat o _ => o.port s
  | _ => none

theorem BlockOp.isPort_of_port {o : BlockOp} {s : State} {e : Event} (h : o.port s = some e) : e.isPort = true := by
  cases o <;> cases h <;> rfl

theorem Shape.isPort_of_port {sh : Shape} {s : State} {e : Event} (h : sh.port s = some e) : e.isPort = true := by
  cases sh with
  | blockOnce o | blockRepeat o => exact o.isPort_of_port h
  | _ => cases h <;> rfl

theorem BlockOp.body_events (o : BlockOp) (d : Dir) (s : State) :
    (o.body d s.notifyPlain).events = (o.port s).toList ++ .notify plainRecord :: s.events := by
  cases o <;> simp [BlockOp.body, BlockOp.port, plainRecord]

/-- What a row sends: its record, and after it its port access, if it has one (R144, R146). -/
theorem Shape.run_events {sh : Shape} {s t : State} (h : sh.run s = .next t) :
    t.events = (sh.port s).toList ++ .notify (sh.record s) :: s.events := by
  cases sh with
  | rotateCopy | changeCopy =>
    obtain rfl := Host.Outcome.next.inj (ifCopyAdmitted_next h)
    simp [Shape.port, Shape.record, plainRecord]
  | blockOnce o d =>
    obtain rfl := Host.Outcome.next.inj h
    exact o.body_events d s
  | blockRepeat o d => obtain ⟨-, rfl⟩ | ⟨-, rfl⟩ := next_ite_cases h <;> exact o.body_events d s
  | retIf => obtain ⟨hc, rfl⟩ | ⟨hc, rfl⟩ := next_ite_cases h <;> simp [Shape.port, Shape.record, hc]
  | jumpIf | jumpRelIf | djnz | callIf =>
    obtain ⟨-, rfl⟩ | ⟨-, rfl⟩ := next_ite_cases h <;> simp [Shape.port, Shape.record, plainRecord]
  | _ =>
    obtain rfl := Host.Outcome.next.inj h
    simp [Shape.port, Shape.record, plainRecord, State.returnFromInterrupt]

/-- With the register-copy forms admitted, every row completes (R400). -/
theorem Shape.run_completes (sh : Shape) {s : State} (h : s.params.undocXYCB = .admitted) : ∃ t, sh.run s = .next t := by
  cases sh with
  | rotateCopy | changeCopy => exact ⟨_, ifCopyAdmitted_of_admitted h _⟩
  | _ => exact ⟨_, rfl⟩

/-- Settles O9: every shape completes and sends its record and at most one port access, and the table of R144 is the shapes' records. -/
theorem everyInstructionCompletes : Obligations.EveryInstructionCompletes := by
  unfold Obligations.EveryInstructionCompletes
  intro i s h
  obtain ⟨t, ht⟩ := (shapeOf i).run_completes h
  refine ⟨t, ((shapeOf i).port s).toList, (exec_eq_run i s).trans ht, ?_, Option.length_toList_le, fun e he => ?_⟩
  · rw [Shape.run_events ht, record_shapeOf]
  · exact Shape.isPort_of_port (Option.mem_toList.mp he)

/-! ## T-states -/

/-- The T-states of a row of the shape, from the state it runs in (R455). -/
def Shape.time (sh : Shape) (s : State) : Nat :=
  match sh with
  | .load8 _ _ t | .alu _ _ t | .modify8 _ _ t | .change8 _ _ t | .onAcc _ t | .load16Imm _ _ _ t | .load16Mem _ _ _ t | .store16Mem _ _ t
  | .loadSp _ t | .push _ t | .pop _ t | .exchangeStack _ t | .addPair _ _ t | .stepPair _ _ t | .jumpReg _ t | .call _ t
  | .noOperation t => t
  | .onFlags _ | .exchangeDEHL | .exchangeAF | .exchangeBanks | .di | .ei | .halt | .wastedPrefix => 4
  | .testReg _ _ | .setIntMode _ => 8
  | .loadAI | .loadAR | .loadIA | .loadRA => 9
  | .jump _ | .jumpIf _ _ | .ret => 10
  | .inputA _ | .outputA _ => 11
  | .testHL _ | .jumpRel _ | .inputReg _ | .inputFlags | .outputReg _ | .outputZero => 12
  | .retInt => 14
  | .carryPair _ _ => 15
  | .blockOnce _ _ => 16
  | .nibbleRotate _ => 18
  | .testIdx _ _ _ => 20
  | .rotateCopy _ _ _ _ | .changeCopy _ _ _ _ => 23
  | .jumpRelIf cc _ => if condHolds cc s.flags then 12 else 7
  | .djnz _ => if s.main.b - 1 != 0 then 13 else 8
  | .callIf cc _ => if condHolds cc s.flags then 17 else 10
  | .retIf cc => if condHolds cc s.flags then 11 else 5
  | .blockRepeat o _ => if o.goesOn s then 21 else 16

theorem time_shapeOf (i : Instr) (s : State) : (shapeOf i).time s = if taken i s then (tstates i).1 else (tstates i).2 := by
  cases i <;> rfl

theorem BlockOp.body_cycles (o : BlockOp) (d : Dir) (s : State) : (o.body d s).cycles = s.cycles := by
  cases o <;> simp [BlockOp.body]

theorem BlockOp.goesOn_notifyPlain (o : BlockOp) (s : State) : o.goesOn s.notifyPlain = o.goesOn s := by
  cases o <;> rfl

theorem Shape.run_cycles {sh : Shape} {s t : State} (h : sh.run s = .next t) : t.cycles = s.cycles + sh.time s := by
  cases sh with
  | rotateCopy | changeCopy =>
    obtain rfl := Host.Outcome.next.inj (ifCopyAdmitted_next h)
    simp [Shape.time]
  | blockRepeat o d =>
    obtain ⟨hc, rfl⟩ | ⟨hc, rfl⟩ := next_ite_cases h <;> rw [o.again_body, o.goesOn_notifyPlain] at hc <;>
      simp [Shape.time, BlockOp.body_cycles, hc]
  | jumpIf => obtain ⟨-, rfl⟩ | ⟨-, rfl⟩ := next_ite_cases h <;> simp [Shape.time]
  | jumpRelIf | djnz | callIf | retIf =>
    obtain ⟨hc, rfl⟩ | ⟨hc, rfl⟩ := next_ite_cases h
    · rw [Shape.time, if_pos hc]
      simp
    · rw [Shape.time, if_neg hc]
      simp
  | _ =>
    obtain rfl := Host.Outcome.next.inj h
    simp [Shape.time, BlockOp.body_cycles, State.returnFromInterrupt]

/-- Settles O10: every shape adds its T-states, and the opcode table's are the shapes'. -/
theorem tstatesFollowTheTable : Obligations.TstatesFollowTheTable := by
  unfold Obligations.TstatesFollowTheTable
  intro i s t h
  rw [exec_eq_run] at h
  rw [Shape.run_cycles h, time_shapeOf]

end Sys2Proof.Machine
end

section
/-! PROOFS. What every execute call, halt cycle and acceptance adds to R (spec/40_dispatch.md R142). -/

namespace Sys2Proof.Machine

/-- The dispatcher counts R once for an instruction, and twice where it starts with one of the four prefixes (R132 to R136). -/
theorem refreshCount_eq (i : Instr) : i.refreshCount = if prefixed i then 2 else 1 := by
  cases i with
  | jrCc k | ldRpNn k | addHLRp k | incRp k | decRp k | incR k | decR k | ldRN k | ldRIndHL k | ldIndHLR k | addAR k | adcAR k | subR k
  | sbcAR k | andR k | xorR k | orR k | cpR k | retCc k | popQq k | jpCcNn k | callCcNn k | pushQq k | rst k => cases k <;> rfl
  | ldRR k j => cases k <;> cases j <;> rfl
  | _ => rfl

/-- Only LD R,A and a wasted DD or FD write R after the dispatcher has counted it. -/
theorem Shape.run_r {sh : Shape} {s t : State} (hr : sh.control ≠ some .regR) (hw : sh.control ≠ some .intInhibit) (h : sh.run s = .next t) :
    t.r = s.r := by
  by_cases hc : sh.control = none
  · exact congrArg Rest.r (sh.run_rest hc h)
  cases sh with
  | loadRA => exact absurd rfl hr
  | wastedPrefix => exact absurd rfl hw
  | exchangeAF | exchangeBanks | loadAI | loadIA | setIntMode | di | ei | retInt | halt =>
    obtain rfl := Host.Outcome.next.inj h
    rfl
  | _ => exact absurd rfl hc

/-- A row that does not write R leaves it as the dispatcher counted it. -/
theorem exec_r {i : Instr} {s t : State} (hld : i ≠ .ldRA) (hdd : i ≠ .wastedDD) (hfd : i ≠ .wastedFD) (h : exec i (fetched i s) = .next t) :
    t.r = refreshAdd s.r (if prefixed i then 2 else 1) := by
  have hr : (shapeOf i).control ≠ some .regR := by simp [control_shapeOf, controlOf_eq_some, hld]
  have hw : (shapeOf i).control ≠ some .intInhibit := by simp [control_shapeOf, controlOf_eq_some, hdd, hfd]
  rw [exec_eq_run] at h
  rw [Shape.run_r hr hw h, fetched_r, refreshCount_eq]

theorem wasted_r {i : Instr} {s t : State} (hx : i.format = .xyw) (h : exec i (fetched i s) = .next t) : t.r = wastedR s := by
  rw [exec_wasted hx] at h
  obtain rfl := Host.Outcome.next.inj h
  rfl

/-- Every maskable acceptance counts R once (R405). -/
theorem acceptInt_r {s t : State} (h : acceptInt s = .next t) : t.r = refreshAdd s.r 1 := by
  have ht : s.takeInt.r = refreshAdd s.r 1 := by rw [takeInt_eq]
  obtain ⟨-, -, rfl⟩ | ⟨-, rfl⟩ | ⟨-, rfl⟩ := acceptInt_cases h <;> exact ht

/-- Settles O19: R is counted by the dispatcher and after it written only by the three rows named; a halt cycle and an acceptance count one. -/
theorem refreshCounts : Obligations.RefreshCounts := by
  unfold Obligations.RefreshCounts
  refine ⟨fun i s t h => ?_, fun s t h => ?_, fun s t hh hb h => ?_, fun s t hb h => ?_⟩
  · split
    · obtain rfl := Host.Outcome.next.inj h
      rfl
    · exact wasted_r rfl h
    · exact wasted_r rfl h
    · next hld hdd hfd => exact exec_r hld hdd hfd h
  · obtain rfl := Host.Outcome.next.inj h
    rfl
  · rw [step_of_halted hh hb] at h
    obtain rfl := Host.Outcome.next.inj h
    simp [haltCycle]
  · obtain ⟨-, rfl⟩ | ⟨-, ha⟩ | ⟨hrun, -, -⟩ | ⟨hrun, -, -⟩ := step_cases h
    · rw [acceptNmi_eq]
      simp
    · simpa using acceptInt_r ha
    · exact absurd hrun hb
    · exact absurd hrun hb

end Sys2Proof.Machine
end

section
/-! PROOFS. The 8-bit loads, the loads of I and R among them (spec/41_load8.md R160 to R180). -/

namespace Sys2Proof.Machine

/-- A row that has the form of an 8-bit load runs that load. -/
theorem shapeOf_of_load8 {i : Instr} {dst : Loc8} {src : Src8} (h : form i = .load8 dst src) :
    shapeOf i = .load8 dst src (tstates i).1 := by
  rw [shapeOf, h]

/-- Settles O31: the row runs the load that its form names, and `load8_eq` says what that leaves. -/
theorem load8Copies : Obligations.Load8Copies := by
  unfold Obligations.Load8Copies
  intro i s dst src h
  rw [exec_eq_run, shapeOf_of_load8 h]
  exact load8_eq dst src (tstates i).1 s

/-- A load of A from I or R, with its flags: P/V is IFF2, H and N are reset and C is kept (R174, R175). -/
theorem loadAFromControl_eq (v : Byte) (s : State) :
    loadAFromControl v s = .next ({ s with main := { s.main with
      a := v
      f := Flags.toByte { s := v.getLsbD 7, z := v == 0, f5 := v.getLsbD 5, h := false, f3 := v.getLsbD 3, pv := s.iff2,
                          n := false, c := s.flags.c } } }.done plainRecord 9) := rfl

/-- A count of R leaves its bit 7 (R33). -/
theorem refreshAdd_bit7 (r : Byte) (k : Nat) : (refreshAdd r k).getLsbD 7 = r.getLsbD 7 :=
  (refreshAddSevenBits r k).2

/-- Every instruction but LD R,A leaves R some number of counts further. -/
theorem exec_r_counted {i : Instr} {s t : State} (hld : i ≠ .ldRA) (h : exec i (fetched i s) = .next t) :
    ∃ k, t.r = refreshAdd s.r k := by
  by_cases hx : i.format = .xyw
  · rw [wasted_r hx h, wastedR]
    split
    · exact ⟨2, rfl⟩
    · exact ⟨1, rfl⟩
  · have hdd : i ≠ .wastedDD := fun e => hx (e ▸ rfl)
    have hfd : i ≠ .wastedFD := fun e => hx (e ▸ rfl)
    exact ⟨_, exec_r hld hdd hfd h⟩

/-- Settles O32: LD A,I and LD A,R are one load of A with its flags, and bit 7 of R survives every count. -/
theorem controlRegisterLoads : Obligations.ControlRegisterLoads := by
  unfold Obligations.ControlRegisterLoads
  refine ⟨rfl, rfl, rfl, rfl, fun s => loadAFromControl_eq s.i s, fun _ => rfl, fun s => loadAFromControl_eq s.r s, fun _ => rfl,
    fun _ => rfl, fun i s t hld h => ?_⟩
  obtain ⟨k, hk⟩ := exec_r_counted hld h
  rw [hk, refreshAdd_bit7]

end Sys2Proof.Machine
end

section
/-! PROOFS. The 16-bit loads and stores, PUSH and POP (spec/42_load16.md R190 to R203), and the stack round trips (spec/48_jump_call_return.md
R337, R339). -/

namespace Sys2Proof.Machine

/-! ## A record before the operation is the record after it -/

/-- A record and a 16-bit store commute. -/
theorem State.notifyPlain_memWrite16 (s : State) (a v : Word) : s.notifyPlain.memWrite16 a v = (s.memWrite16 a v).notifyPlain := by
  simp only [State.memWrite16, State.notifyPlain_memWrite]

/-- A record and a push commute. -/
theorem State.notifyPlain_push16 (s : State) (v : Word) : s.notifyPlain.push16 v = (s.push16 v).notifyPlain := by
  simp only [State.push16, State.notifyPlain_memWrite, State.notifyPlain_sp]
  rfl

/-! ## Shapes -/

/-- A 16-bit immediate load (R190, R191). -/
theorem load16Imm_eq (dst : Reg16) (nn : Word) (ldSp : Bool) (t : Nat) (s : State) :
    load16Imm dst nn ldSp t s = .next ((s.set16 dst nn).done ⟨false, false, ldSp, false⟩ t) := by
  cases dst <;> rfl

/-- A 16-bit load from (nn) is the immediate load of the word there, the low byte first (R192 to R194). -/
theorem load16Mem_eq (dst : Reg16) (nn : Word) (ldSp : Bool) (t : Nat) (s : State) :
    load16Mem dst nn ldSp t s =
      .next ((s.set16 dst (word (s.memRead .data1 (nn + 1)) (s.memRead .data0 nn))).done ⟨false, false, ldSp, false⟩ t) :=
  load16Imm_eq dst (s.memRead16 nn) ldSp t s

/-- A 16-bit store to (nn) (R195 to R197). -/
theorem store16Mem_eq (src : Reg16) (nn : Word) (t : Nat) (s : State) :
    store16Mem src nn t s = .next ((s.memWrite16 nn (s.get16 src)).done plainRecord t) := by
  rw [store16Mem, State.notifyPlain_memWrite16]
  rfl

/-- PUSH (R198, R200). -/
theorem push_eq (src : Reg16) (t : Nat) (s : State) : push src t s = .next ((s.push16 (s.get16 src)).done plainRecord t) := by
  rw [push, State.notifyPlain_push16]
  rfl

/-- POP (R199, R201). -/
theorem pop_eq (dst : Reg16) (t : Nat) (s : State) :
    pop dst t s = .next ((s.dropWord.set16 dst s.stackTop).done plainRecord t) := by
  cases dst <;> rfl

/-- CALL and RST (R337, R343). -/
theorem call_eq (v : Word) (t : Nat) (s : State) : call v t s = .next (((s.push16 s.pc).setPc v).done plainRecord t) := by
  rw [call, State.notifyPlain_push16]
  rfl

/-- RET (R339). -/
theorem ret_eq (t : Nat) (s : State) : ret t s = .next ((s.dropWord.setPc s.stackTop).done ⟨true, false, false, false⟩ t) := rfl

/-! ## Loads of a register -/

/-- Settles O33: every row is an immediate load, a load from (nn) or a load of SP, and the equation of its shape is the statement. -/
theorem load16Registers : Obligations.Load16Registers := by
  unfold Obligations.Load16Registers
  refine ⟨fun s rp nn => load16Imm_eq (pairReg rp) nn (rp == .sp) 10 s, fun s nn => load16Imm_eq .ix nn false 14 s,
    fun s nn => load16Imm_eq .iy nn false 14 s, ?_, fun _ => rfl, fun _ => rfl, fun _ => rfl⟩
  rintro s nn v rfl
  exact ⟨load16Mem_eq .hl nn false 16 s, fun rp => load16Mem_eq (pairReg rp) nn (rp == .sp) 20 s, load16Mem_eq .ix nn false 20 s,
    load16Mem_eq .iy nn false 20 s⟩

/-! ## Stores -/

/-- A 16-bit store changes memory and nothing else. -/
theorem State.memWrite16_eq (s : State) (a v : Word) : s.memWrite16 a v = { s with mem := (s.memWrite16 a v).mem } := by
  unfold State.memWrite16
  rw [State.memWrite_eq (s.memWrite _ _), State.memWrite_eq s]

/-- A 16-bit store leaves every byte but its two. -/
theorem bytesKept_memWrite16 (s : State) (a v : Word) : bytesKept s (s.memWrite16 a v) [a, a + 1] := by
  intro acc b hb
  simp only [List.mem_cons, List.not_mem_nil, or_false, not_or] at hb
  obtain ⟨h0, h1⟩ := hb
  exact State.memRead_memWrite16_other s h0 h1 v acc

/-- Settles O34: the rows are one store of a register each, and a record changes no byte. -/
theorem store16LittleEndian : Obligations.Store16LittleEndian := by
  unfold Obligations.Store16LittleEndian
  intro i s nn v hi
  obtain ⟨src, he, rfl⟩ : ∃ src, exec i s = store16Mem src nn (tstates i).1 s ∧ v = s.get16 src := by
    obtain ⟨rfl, rfl⟩ | ⟨rp, rfl, rfl⟩ | ⟨rfl, rfl⟩ | ⟨rfl, rfl⟩ := hi
    exacts [⟨.hl, rfl, rfl⟩, ⟨pairReg rp, rfl, rfl⟩, ⟨.ix, rfl, rfl⟩, ⟨.iy, rfl, rfl⟩]
  refine ⟨_, he.trans (store16Mem_eq src nn _ s), ?_, bytesKept_memWrite16 s nn _, fun w h0 h1 acc => ?_⟩
  · exact congrArg (·.done plainRecord (tstates i).1) (State.memWrite16_eq s nn _)
  · exact State.memRead_memWrite16 s w h0 h1 _ acc

/-! ## PUSH and POP -/

/-- `Pushed` does not look at the record and the T-states. -/
theorem Pushed.done {s t : State} {v : Word} (h : Pushed s t v) (n : Notification) (k : Nat) : Pushed s (t.done n k) v :=
  h.congr rfl rfl rfl rfl rfl rfl rfl rfl

/-- Settles O35: a push changes memory and SP only, and a pop is its own equation. -/
theorem pushAndPop : Obligations.PushAndPop := by
  unfold Obligations.PushAndPop
  refine ⟨fun i s q hi => ?_, fun i s q hi => ?_⟩
  · have he : exec i s = push q (tstates i).1 s := by
      obtain ⟨qq, rfl, rfl⟩ | ⟨rfl, rfl⟩ | ⟨rfl, rfl⟩ := hi <;> rfl
    refine ⟨_, he.trans (push_eq q _ s), ?_, (pushed_push16 s _).done plainRecord _⟩
    exact congrArg (·.done plainRecord (tstates i).1) (State.push16_eq s _)
  · have he : exec i s = pop q (tstates i).1 s := by
      obtain ⟨qq, rfl, rfl⟩ | ⟨rfl, rfl⟩ | ⟨rfl, rfl⟩ := hi <;> rfl
    exact he.trans (pop_eq q _ s)

/-! ## The stack round trips -/

/-- A 16-bit register written with the value it holds leaves the state. -/
theorem State.set16_eq_self {s : State} {q : Reg16} {v : Word} (h : s.get16 q = v) : s.set16 q v = s := by
  subst h
  cases q <;>
    simp [State.set16, State.get16, State.setMain, Bank.setBc, Bank.setDe, Bank.setHl, Bank.setAf, Bank.bc, Bank.de, Bank.hl, Bank.af]

/-- A push and the drop of its word change memory alone, for every SP. -/
theorem State.push16_dropWord (s : State) (v : Word) : (s.push16 v).dropWord = { s with mem := (s.push16 v).mem } := by
  rw [State.push16_eq, State.dropWord, BitVec.sub_add_cancel]

section
variable {s : State} (w : s.mem.wf = true) (h1 : s.isRam (s.sp - 1) = true) (h2 : s.isRam (s.sp - 2) = true)
include w h1 h2

/-- A stack in plain RAM holds the word pushed. -/
theorem State.push16_stackTop (v : Word) : (s.push16 v).stackTop = v := (pushed_push16 s v).stackTop w h1 h2

/-- PUSH, then POP of the same register: the pop writes what the register still holds. -/
theorem push_pop_restores (q : Reg16) (j k : Nat) :
    ∃ t u, push q j s = .next t ∧ pop q k t = .next u ∧ u = { s with mem := u.mem, events := u.events, cycles := u.cycles } := by
  refine ⟨_, _, push_eq q j s, pop_eq q k _, ?_⟩
  have htop : ((s.push16 (s.get16 q)).done plainRecord j).stackTop = s.get16 q := State.push16_stackTop w h1 h2 _
  have hdrop : ((s.push16 (s.get16 q)).done plainRecord j).dropWord = { s with mem := (s.push16 (s.get16 q)).mem }.done plainRecord j :=
    congrArg (·.done plainRecord j) (State.push16_dropWord s _)
  have hget : ({ s with mem := (s.push16 (s.get16 q)).mem }.done plainRecord j).get16 q = s.get16 q := by cases q <;> rfl
  rw [htop, hdrop, State.set16_eq_self hget]
  rfl

/-- CALL, then RET: the word returned to is the PC pushed. -/
theorem call_ret_restores (v : Word) (j k : Nat) :
    ∃ t u, call v j s = .next t ∧ t.pc = v ∧ ret k t = .next u ∧
      u = { s with mem := u.mem, events := u.events, cycles := u.cycles } := by
  refine ⟨_, _, call_eq v j s, rfl, ret_eq k _, ?_⟩
  have htop : (((s.push16 s.pc).setPc v).done plainRecord j).stackTop = s.pc := State.push16_stackTop w h1 h2 s.pc
  have hdrop : (((s.push16 s.pc).setPc v).done plainRecord j).dropWord =
      ({ s with mem := (s.push16 s.pc).mem }.setPc v).done plainRecord j :=
    congrArg (fun u : State => (u.setPc v).done plainRecord j) (State.push16_dropWord s s.pc)
  rw [htop, hdrop]
  rfl

end

/-- Settles O36: the word popped is the word pushed, and it goes back to where it came from, the register or PC. -/
theorem stackRoundTrips : Obligations.StackRoundTrips := by
  unfold Obligations.StackRoundTrips
  refine ⟨fun s i j w h1 h2 hij => ?_, fun s nn w h1 h2 => call_ret_restores w h1 h2 nn 17 10⟩
  obtain ⟨qq, rfl, rfl⟩ | ⟨rfl, rfl⟩ | ⟨rfl, rfl⟩ := hij
  · exact push_pop_restores w h1 h2 (stackReg qq) 11 10
  · exact push_pop_restores w h1 h2 .ix 15 14
  · exact push_pop_restores w h1 h2 .iy 15 14

end Sys2Proof.Machine
end

section
/-! PROOFS. The register exchanges and the exchange with the word at SP (spec/43_exchange_block.md R210 to R214). -/

namespace Sys2Proof.Machine

/-! ## Register exchanges -/

/-- EX DE,HL (R210): the halves of the two pairs change places. -/
theorem execExDEHL_eq (s : State) :
    execExDEHL s =
      .next ({ s with main := { s.main with d := s.main.h, e := s.main.l, h := s.main.d, l := s.main.e } }.done plainRecord 4) := by
  have hbank : (s.main.setDe s.main.hl).setHl s.main.de = { s.main with d := s.main.h, e := s.main.l, h := s.main.d, l := s.main.e } := by
    simp [Bank.setDe, Bank.setHl, Bank.de, Bank.hl]
  rw [execExDEHL, hbank]
  rfl

/-- EX AF,AF' twice restores both banks (R211). -/
theorem execExAFAF_twice {s t u : State} (ht : execExAFAF s = .next t) (hu : execExAFAF t = .next u) : u.main = s.main ∧ u.alt = s.alt := by
  obtain rfl := Host.Outcome.next.inj ht
  obtain rfl := Host.Outcome.next.inj hu
  exact ⟨rfl, rfl⟩

/-- Settles O37: EX DE,HL is `execExDEHL_eq`, the other two exchanges are their meanings read off, and after DD or FD the byte EB is not
recognised. -/
theorem exchangesSwap : Obligations.ExchangesSwap := by
  unfold Obligations.ExchangesSwap
  exact ⟨decode_encode (i := .exDEHL) rfl rfl, decode_encode (i := .exAFAF) rfl rfl, decode_encode (i := .exx) rfl rfl,
    decode_encode (i := .wastedDD) rfl rfl, decode_encode (i := .wastedFD) rfl rfl, execExDEHL_eq, fun _ => rfl,
    fun _ _ _ ht hu => execExAFAF_twice ht hu, fun _ => rfl⟩

/-! ## The exchange with the word at SP -/

/-- The two stores of EX (SP),rr, the high byte at SP+1 first (R213). -/
def State.storeAtSp (s : State) (v : Word) : State := (s.memWrite (s.sp + 1) (hiByte v)).memWrite s.sp (loByte v)

/-- They change memory and nothing else. -/
theorem State.storeAtSp_eq (s : State) (v : Word) : s.storeAtSp v = { s with mem := (s.storeAtSp v).mem } := by
  unfold State.storeAtSp
  rw [State.memWrite_eq (s.memWrite _ _), State.memWrite_eq s]

/-- They leave every byte but the two at SP and SP+1. -/
theorem bytesKept_storeAtSp (s : State) (v : Word) : bytesKept s (s.storeAtSp v) [s.sp, s.sp + 1] := by
  intro acc b hb
  simp only [List.mem_cons, List.not_mem_nil, or_false, not_or] at hb
  obtain ⟨h0, h1⟩ := hb
  rw [State.storeAtSp, State.memRead_memWrite_other _ h0, State.memRead_memWrite_other _ h1]

/-- In plain RAM the word then stands at SP, the low byte first. -/
theorem State.memRead_storeAtSp {s : State} (w : s.mem.wf = true) (h0 : s.isRam s.sp = true) (h1 : s.isRam (s.sp + 1) = true) (v : Word)
    (acc : Config.Access) :
    (s.storeAtSp v).memRead acc s.sp = loByte v ∧ (s.storeAtSp v).memRead acc (s.sp + 1) = hiByte v := by
  constructor
  · exact State.memRead_memWrite_self _ (State.memWrite_wf _ w _ _) (by simpa using h0) _ _
  · rw [State.storeAtSp, State.memRead_memWrite_other _ (word_ne_succ s.sp).symm, State.memRead_memWrite_self _ w h1]

/-- EX (SP),rr: the stores, and the register written with the word that stood at SP (R213, R214). -/
theorem exchangeStack_eq (q : Reg16) (t : Nat) (s : State) :
    exchangeStack q t s = .next (((s.storeAtSp (s.get16 q)).set16 q s.stackTop).done plainRecord t) := by
  rw [exchangeStack, State.notifyPlain_memWrite, State.notifyPlain_memWrite]
  cases q <;> rfl

/-- Settles O38: each row is that exchange, and a write of the register changes no byte of memory. -/
theorem exchangeWithStack : Obligations.ExchangeWithStack := by
  unfold Obligations.ExchangeWithStack
  intro s x hx
  have he : exec x.1 s = exchangeStack x.2 (tstates x.1).1 s := by
    simp only [List.mem_cons, List.not_mem_nil, or_false] at hx
    obtain rfl | rfl | rfl := hx <;> rfl
  have hread (acc : Config.Access) (a : Word) :
      (((s.storeAtSp (s.get16 x.2)).set16 x.2 s.stackTop).done plainRecord (tstates x.1).1).memRead acc a =
        (s.storeAtSp (s.get16 x.2)).memRead acc a :=
    State.set16_memRead _ _ _ _ _
  refine ⟨_, he.trans (exchangeStack_eq x.2 _ s), ?_, fun acc a ha => ?_, fun w h0 h1 acc => ?_⟩
  · conv_lhs => rw [State.storeAtSp_eq]
    simp [State.done, State.stackTop, State.memRead16]
  · exact (hread acc a).trans (bytesKept_storeAtSp s _ acc a ha)
  · rw [hread, hread]
    exact State.memRead_storeAtSp w h0 h1 _ acc

end Sys2Proof.Machine
end

section
/-! PROOFS. One iteration of the block instructions (spec/43_exchange_block.md R215 to R223, spec/49_io.md R366 to R374): every block row, single
or repeating, leaves the state of `BlockOp.iterate`. -/

namespace Sys2Proof.Machine

/-! ## One iteration -/

/-- What one iteration of a block row leaves (R215): the body's registers and memory, its record and port access, and, when the row repeats and
goes on, PC back over its two bytes. -/
def BlockOp.iterate (o : BlockOp) (d : Dir) (rep : Bool) (s : State) : State :=
  { s with
    main := (o.body d s).main
    mem := (o.body d s).mem
    pc := if rep && o.goesOn s then s.pc - 2 else s.pc
    events := (o.port s).toList ++ .notify plainRecord :: s.events
    cycles := s.cycles + if rep && o.goesOn s then 21 else 16 }

/-- The block shape with and without the repeat. -/
def blockShape (o : BlockOp) (d : Dir) (rep : Bool) : Shape := if rep then .blockRepeat o d else .blockOnce o d

/-- A body changes the main bank, memory and the events, and nothing else. -/
theorem BlockOp.body_eq (o : BlockOp) (d : Dir) (s : State) :
    o.body d s = { s with main := (o.body d s).main, mem := (o.body d s).mem, events := (o.body d s).events } := by
  cases o with
  | move =>
    simp only [BlockOp.body, blockMove]
    rw [State.memWrite_eq s]
    rfl
  | input =>
    simp only [BlockOp.body, blockIn]
    rw [State.memWrite_eq (s.portRead _)]
    rfl
  | search | output => rfl

theorem BlockOp.body_main_notifyPlain (o : BlockOp) (d : Dir) (s : State) : (o.body d s.notifyPlain).main = (o.body d s).main := by
  cases o <;> simp [BlockOp.body, State.flags]

theorem BlockOp.body_mem_notifyPlain (o : BlockOp) (d : Dir) (s : State) : (o.body d s.notifyPlain).mem = (o.body d s).mem := by
  cases o with
  | move =>
    rw [BlockOp.body, blockMove_mem, blockMove_mem, State.notifyPlain_memWrite]
    rfl
  | input =>
    rw [BlockOp.body, blockIn_mem, blockIn_mem, State.notifyPlain_memWrite]
    rfl
  | search | output => simp [BlockOp.body]

/-- The body with its record. -/
theorem BlockOp.body_notifyPlain (o : BlockOp) (d : Dir) (s : State) :
    o.body d s.notifyPlain =
      { s with
        main := (o.body d s).main
        mem := (o.body d s).mem
        events := (o.port s).toList ++ .notify plainRecord :: s.events } := by
  rw [BlockOp.body_eq, BlockOp.body_events, BlockOp.body_main_notifyPlain, BlockOp.body_mem_notifyPlain]
  rfl

/-- A block shape runs one iteration. -/
theorem blockShape_run (o : BlockOp) (d : Dir) (rep : Bool) (s : State) : (blockShape o d rep).run s = .next (o.iterate d rep s) := by
  have hbody := o.body_notifyPlain d s
  cases rep with
  | false =>
    change blockOnce (o.body d) s = _
    rw [blockOnce, hbody]
    rfl
  | true =>
    change blockRepeat (o.body d) o.again s = _
    have hgo : o.again (o.body d s.notifyPlain) = o.goesOn s := by rw [BlockOp.again_body, BlockOp.goesOn_notifyPlain]
    rw [blockRepeat, hgo, hbody, BlockOp.iterate]
    cases o.goesOn s <;> rfl

/-- The rows of each block operation, with their direction and whether they repeat. -/
def BlockOp.rows (o : BlockOp) : List (Instr × Dir × Bool) :=
  match o with
  | .move => [(.ldi, .inc, false), (.ldd, .dec, false), (.ldir, .inc, true), (.lddr, .dec, true)]
  | .search => [(.cpi, .inc, false), (.cpd, .dec, false), (.cpir, .inc, true), (.cpdr, .dec, true)]
  | .input => [(.ini, .inc, false), (.ind, .dec, false), (.inir, .inc, true), (.indr, .dec, true)]
  | .output => [(.outi, .inc, false), (.outd, .dec, false), (.otir, .inc, true), (.otdr, .dec, true)]

/-- A block row has the block shape, and two bytes that are each fetched and counted. -/
theorem block_of_mem_rows {o : BlockOp} {x : Instr × Dir × Bool} (h : x ∈ o.rows) :
    shapeOf x.1 = blockShape o x.2.1 x.2.2 ∧ x.1.fetchCount = 2 ∧ x.1.refreshCount = 2 := by
  cases o with
  | move | search | input | output =>
    simp only [BlockOp.rows, List.mem_cons, List.not_mem_nil, or_false] at h
    obtain rfl | rfl | rfl | rfl := h <;> exact ⟨rfl, rfl, rfl⟩

/-- Every block row runs one iteration. -/
theorem exec_block {o : BlockOp} {x : Instr × Dir × Bool} (h : x ∈ o.rows) (s : State) :
    exec x.1 s = .next (o.iterate x.2.1 x.2.2 s) := by
  obtain ⟨hshape, -, -⟩ := block_of_mem_rows h
  rw [exec_eq_run, hshape, blockShape_run]

/-- A store leaves every byte but its own. -/
theorem bytesKept_memWrite (s : State) (a : Word) (v : Byte) : bytesKept s (s.memWrite a v) [a] :=
  fun acc _ hb => State.memRead_memWrite_other s (List.ne_of_not_mem_cons hb) v acc

/-- What memory reads as after an iteration whose body stores one byte. -/
theorem BlockOp.iterate_store {o : BlockOp} {d : Dir} {s : State} {a : Word} {v : Byte} (hm : (o.body d s).mem = (s.memWrite a v).mem)
    (rep : Bool) :
    bytesKept s (o.iterate d rep s) [a] ∧
      (s.mem.wf = true → s.isRam a = true → ∀ acc, (o.iterate d rep s).memRead acc a = v) := by
  have hread : ∀ acc b, (o.iterate d rep s).memRead acc b = (s.memWrite a v).memRead acc b :=
    State.memRead_congr hm (State.memWrite_params s a v).symm (State.memWrite_draw s a v).symm
  refine ⟨fun acc b hb => ?_, fun w hram acc => ?_⟩
  · rw [hread]
    exact bytesKept_memWrite s a v acc b hb
  · rw [hread]
    exact State.memRead_memWrite_self s w hram v acc

theorem sub_bne_zero {n : Nat} (x y : BitVec n) : (x - y != 0) = (x != y) := by
  rw [Bool.eq_iff_iff, bne_iff_ne, bne_iff_ne, sub_ne_zero]

theorem sub_beq_zero {n : Nat} (x y : BitVec n) : (x - y == 0) = decide (x = y) := by
  rw [Bool.beq_eq_decide_eq, decide_eq_decide, sub_eq_zero]

theorem bne_eq_decide_ne {α : Type} [DecidableEq α] (x y : α) : (x != y) = decide (x ≠ y) := by
  rw [Bool.eq_iff_iff, bne_iff_ne, decide_eq_true_iff]

/-- A transfer and a search step BC down (R216, R220). -/
theorem BlockOp.iterate_bc {o : BlockOp} (ho : o = .move ∨ o = .search) (d : Dir) (rep : Bool) (s : State) :
    (o.iterate d rep s).main.bc = s.main.bc - 1 := by
  obtain rfl | rfl := ho
  · exact (congrArg Bank.bc (blockMove_main s d)).trans (word_hiByte_loByte _)
  · exact word_hiByte_loByte _

/-! ## Block transfers -/

/-- The flags of a block transfer, from BC before it (R216). -/
theorem blockMoveFlags_eq (v a : Byte) (bc : Word) (fl : Flags) :
    blockMoveFlags v a (bc - 1) fl =
      { fl with h := false, n := false, pv := decide (bc ≠ 1), f3 := (v + a).getLsbD 3, f5 := (v + a).getLsbD 1 } := by
  rw [blockMoveFlags, sub_bne_zero, bne_eq_decide_ne]

/-- Settles O39: each row is an iteration of the block transfer. -/
theorem blockTransfer : Obligations.BlockTransfer := by
  unfold Obligations.BlockTransfer
  intro s x hx
  have hmain := blockMove_main s x.2.1
  rw [blockMoveFlags_eq] at hmain
  obtain ⟨hkept, hstored⟩ := BlockOp.iterate_store (o := .move) (blockMove_mem s x.2.1) x.2.2
  have hgo : BlockOp.move.goesOn s = (s.main.bc != 1) := sub_bne_zero _ _
  refine ⟨_, exec_block (o := .move) hx s, ?_, ?_, ?_, ?_, ?_, hkept, hstored, ?_⟩
  · exact (congrArg Bank.hl hmain).trans (word_hiByte_loByte _)
  · exact (congrArg Bank.de hmain).trans (word_hiByte_loByte _)
  · exact BlockOp.iterate_bc (.inl rfl) _ _ s
  · exact (congrArg Bank.a hmain).trans rfl
  · exact (congrArg (fun k : Bank => Flags.ofByte k.f) hmain).trans (Flags.ofByte_toByte _)
  · rw [BlockOp.iterate, hgo]
    rfl

/-! ## Block searches -/

theorem xor_decide_odd (m n : Nat) : (decide (m % 2 = 1) ^^ decide (n % 2 = 1)) = decide ((m + n) % 2 = 1) := by
  rw [Bool.eq_iff_iff, Bool.xor_iff_ne]
  simp only [ne_eq, decide_eq_decide, decide_eq_true_iff]
  omega

/-- Bit 4 of the operands and their difference together is the borrow from bit 4 (R220). -/
theorem halfBorrow_eq (a v : Byte) : (a ^^^ v ^^^ (a - v)).getLsbD 4 = decide (a.toNat % 16 < v.toNat % 16) := by
  rw [BitVec.getLsbD_xor, BitVec.getLsbD_xor]
  simp only [BitVec.getLsbD, Nat.testBit_eq_decide_div_mod_eq, BitVec.toNat_sub, xor_decide_odd, decide_eq_decide]
  omega

/-- The flags of a block search, from BC before it, with the half borrow `h` (R220). -/
theorem blockSearchFlags_eq {v a : Byte} {h : Bool} (hh : h = decide (a.toNat % 16 < v.toNat % 16)) (bc : Word) (fl : Flags) :
    blockSearchFlags v a (bc - 1) fl =
      { s := (a - v).getLsbD 7, z := decide (a = v), f5 := (a - v - if h then 1 else 0).getLsbD 1, h := h,
        f3 := (a - v - if h then 1 else 0).getLsbD 3, pv := decide (bc ≠ 1), n := true, c := fl.c } := by
  simp only [blockSearchFlags, halfBorrow_eq, ← hh, sub_beq_zero, sub_bne_zero]
  rw [bne_eq_decide_ne]
  rfl

/-- Settles O40: each row is an iteration of the block search (the name `blockSearch` is the body's own). -/
theorem blockSearchIteration : Obligations.BlockSearch := by
  unfold Obligations.BlockSearch
  rintro s x hx _ _ h _ rfl rfl hh rfl
  have hgo : BlockOp.search.goesOn s = (s.main.bc != 1 && s.main.a != s.memRead .data0 s.main.hl) := by
    rw [BlockOp.goesOn, sub_bne_zero, sub_bne_zero]
  refine ⟨_, exec_block (o := .search) hx s, word_hiByte_loByte _, BlockOp.iterate_bc (.inr rfl) _ _ s, rfl, rfl, ?_, ?_⟩
  · exact (Flags.ofByte_toByte _).trans (blockSearchFlags_eq hh _ _)
  · rw [BlockOp.iterate, hgo, Bool.and_assoc]
    rfl

/-! ## Block input and output -/

/-- The registers after an iteration of block input or output (R366 to R374). -/
theorem BlockOp.iterate_io {o : BlockOp} (ho : o = .input ∨ o = .output) (d : Dir) (rep : Bool) (s : State) {t : State} {b : Byte}
    (ht : t = o.iterate d rep s) (hb : b = s.main.b - 1) :
    t.main.hl = d.step s.main.hl ∧ t.main.b = b ∧ t.main.c = s.main.c ∧ t.main.de = s.main.de ∧ t.main.a = s.main.a ∧
      t.flags = { s := b.getLsbD 7, z := decide (b = 0), f5 := b.getLsbD 5, h := Config.ioH s.draw, f3 := b.getLsbD 3,
                  pv := Config.ioPV s.draw, n := true, c := Config.ioC s.draw } := by
  subst hb ht
  have hmain : (o.iterate d rep s).main =
      { (s.main.setHl (d.step s.main.hl)).set .b (s.main.b - 1) with f := (blockIoFlags (s.main.b - 1) s.draw).toByte } := by
    obtain rfl | rfl := ho
    · exact blockIn_main s d
    · exact blockOut_main s d
  rw [State.flags, hmain]
  refine ⟨word_hiByte_loByte _, rfl, rfl, rfl, rfl, (Flags.ofByte_toByte _).trans ?_⟩
  rw [blockIoFlags, Bool.beq_eq_decide_eq]

/-- Settles O41: the byte is the host's answer to the port read, and each row is an iteration of the block input. -/
theorem blockInput : Obligations.BlockInput := by
  unfold Obligations.BlockInput
  intro s x hx b hb
  obtain ⟨hhl, hb', hc, hde, ha, hfl⟩ := BlockOp.iterate_io (.inl rfl) x.2.1 x.2.2 s rfl hb
  obtain ⟨hkept, hstored⟩ := BlockOp.iterate_store (o := .input) (blockIn_mem s x.2.1) x.2.2
  refine ⟨_, s.portValue s.main.c, _, _, _, exec_block (o := .input) hx s, hhl, hb', hc, hde, ha, hfl, hkept, hstored, ?_⟩
  rw [hb]
  rfl

/-- Settles O42: each row is an iteration of the block output, which has the registers of the block input and stores nothing. -/
theorem blockOutput : Obligations.BlockOutput := by
  unfold Obligations.BlockOutput
  intro s x hx b hb
  obtain ⟨hhl, hb', hc, hde, ha, hfl⟩ := BlockOp.iterate_io (.inr rfl) x.2.1 x.2.2 s rfl hb
  refine ⟨_, _, _, _, exec_block (o := .output) hx s, hhl, hb', hc, hde, ha, hfl, ?_⟩
  rw [hb]
  rfl

end Sys2Proof.Machine
end

section
/-! PROOFS. How long the repeating block instructions run (spec/43_exchange_block.md R215). -/

namespace Sys2Proof.Machine

/-! ## The counter -/

/-- The iterations that come after the next one, while nothing but the counter ends the repeat: from BC, or B for input and output (R215). -/
def BlockOp.repeats (o : BlockOp) (s : State) : Nat :=
  match o with
  | .move | .search => (s.main.bc - 1).toNat
  | .input | .output => (s.main.b - 1).toNat

/-- A row that only its counter ends goes on while iterations are left. -/
theorem BlockOp.goesOn_eq {o : BlockOp} (ho : o ≠ .search) (s : State) : o.goesOn s = decide (o.repeats s ≠ 0) := by
  rw [Bool.eq_iff_iff, decide_eq_true_iff]
  cases o with
  | search => exact absurd rfl ho
  | move | input | output =>
    simp only [BlockOp.goesOn, BlockOp.repeats, bne_iff_ne]
    bv_omega

theorem toNat_sub_one_add_one {n : Nat} {v : BitVec n} (h : v.toNat ≠ 0) : (v - 1).toNat + 1 = v.toNat := by
  have hv : 1 ≤ v.toNat := Nat.one_le_iff_ne_zero.mpr h
  have hone : (1 : BitVec n).toNat = 1 := Nat.mod_eq_of_lt (Nat.lt_of_le_of_lt hv v.isLt)
  rw [BitVec.toNat_sub_of_le (BitVec.le_def.mpr (by rwa [hone])), hone, Nat.sub_add_cancel hv]

/-- An iteration steps the counter down. -/
theorem BlockOp.repeats_iterate {o : BlockOp} {s : State} (h : o.repeats s ≠ 0) (d : Dir) (rep : Bool) :
    o.repeats (o.iterate d rep s) + 1 = o.repeats s := by
  cases o with
  | move =>
    rw [BlockOp.repeats, BlockOp.iterate_bc (.inl rfl)]
    exact toNat_sub_one_add_one h
  | search =>
    rw [BlockOp.repeats, BlockOp.iterate_bc (.inr rfl)]
    exact toNat_sub_one_add_one h
  | input =>
    obtain ⟨-, hb, -⟩ := BlockOp.iterate_io (.inl rfl) d rep s rfl rfl
    rw [BlockOp.repeats, hb]
    exact toNat_sub_one_add_one h
  | output =>
    obtain ⟨-, hb, -⟩ := BlockOp.iterate_io (.inr rfl) d rep s rfl rfl
    rw [BlockOp.repeats, hb]
    exact toNat_sub_one_add_one h

/-! ## The runs -/

theorem repeated_succ {i : Instr} {k : Nat} {s t : State} (h : repeated i k s = .next t) :
    repeated i (k + 1) s = exec i (fetched i t) := by
  rw [repeated, h]

section
variable {o : BlockOp} {i : Instr} {d : Dir} (ho : o ≠ .search) (hi : (i, d, true) ∈ o.rows)
include ho hi

/-- One fetch and execution of a repeating row: as long as iterations come after it, PC is back at the row. -/
theorem exec_fetched_of_repeating (s : State) :
    ∃ t, exec i (fetched i s) = .next t ∧ t.pc = (if o.repeats s = 0 then s.pc + 2 else s.pc) ∧ t.r = refreshAdd s.r 2 ∧
      t.cycles = s.cycles + (if o.repeats s = 0 then 16 else 21) ∧ (o.repeats s ≠ 0 → o.repeats t + 1 = o.repeats s) := by
  obtain ⟨-, hfetch, hrefresh⟩ := block_of_mem_rows hi
  have hrep : o.repeats (fetched i s) = o.repeats s := by cases o <;> rfl
  have hgo : o.goesOn (fetched i s) = decide (o.repeats s ≠ 0) := by rw [BlockOp.goesOn_eq ho, hrep]
  have hpc : (fetched i s).pc = s.pc + 2 := by
    rw [fetched_pc, hfetch]
    rfl
  have hr : (fetched i s).r = refreshAdd s.r 2 := by rw [fetched_r, hrefresh]
  refine ⟨o.iterate d true (fetched i s), exec_block hi _, ?_, hr, ?_, fun h => ?_⟩
  · simp only [BlockOp.iterate, hgo, hpc, Bool.true_and, decide_eq_true_iff, ite_not, BitVec.add_sub_cancel]
  · simp only [BlockOp.iterate, hgo, fetched_cycles, Bool.true_and, decide_eq_true_iff, ite_not]
  · rw [← hrep] at h ⊢
    exact BlockOp.repeats_iterate h d true

/-- Before the last iteration ends, PC is at the row again after each, with two counts of R and 21 T-states for it. -/
theorem repeated_of_le_repeats {s : State} {k : Nat} (hk : k ≤ o.repeats s) :
    ∃ t, repeated i k s = .next t ∧ t.pc = s.pc ∧ t.r = refreshAdd s.r (2 * k) ∧ t.cycles = s.cycles + 21 * k ∧
      o.repeats t + k = o.repeats s := by
  induction k with
  | zero => exact ⟨s, rfl, rfl, (refreshAdd_zero s.r).symm, rfl, rfl⟩
  | succ k ih =>
    obtain ⟨t, ht, hpc, hr, hcycles, hleft⟩ := ih (by omega)
    have hne : o.repeats t ≠ 0 := by omega
    obtain ⟨u, hu, hpc', hr', hcycles', hleft'⟩ := exec_fetched_of_repeating ho hi t
    rw [if_neg hne] at hpc' hcycles'
    refine ⟨u, (repeated_succ ht).trans hu, hpc'.trans hpc, ?_, by omega, ?_⟩
    · rw [hr', hr, refreshAdd_refreshAdd]
      rfl
    · have := hleft' hne
      omega

/-- The last iteration takes 16 T-states and leaves PC past the row. -/
theorem repeated_count {s : State} {n k : Nat} (hn : n = o.repeats s + 1) (hk : k ≤ n) :
    ∃ t, repeated i k s = .next t ∧ t.pc = (if k = n then s.pc + 2 else s.pc) ∧ t.r = refreshAdd s.r (2 * k) ∧
      t.cycles = s.cycles + (if k = n then 21 * (k - 1) + 16 else 21 * k) := by
  subst hn
  by_cases hlast : k = o.repeats s + 1
  · subst hlast
    obtain ⟨t, ht, hpc, hr, hcycles, hleft⟩ := repeated_of_le_repeats ho hi (Nat.le_refl (o.repeats s))
    have hzero : o.repeats t = 0 := by omega
    obtain ⟨u, hu, hpc', hr', hcycles', -⟩ := exec_fetched_of_repeating ho hi t
    rw [if_pos hzero] at hpc' hcycles'
    refine ⟨u, (repeated_succ ht).trans hu, ?_, ?_, ?_⟩
    · rw [hpc', hpc, if_pos rfl]
    · rw [hr', hr, refreshAdd_refreshAdd]
      rfl
    · rw [hcycles', hcycles, if_pos rfl]
      omega
  · obtain ⟨t, ht, hpc, hr, hcycles, -⟩ := repeated_of_le_repeats ho hi (k := k) (s := s) (by omega)
    rw [if_neg hlast, if_neg hlast]
    exact ⟨t, ht, hpc, hr, hcycles⟩

end

/-- The rows that only the counter ends, and their counter as the iterations to run: from 0 a whole round. -/
theorem counted_rows {i : Instr} {s : State} {n : Nat}
    (h : (i = .ldir ∨ i = .lddr) ∧ n = (if s.main.bc = 0 then 65536 else s.main.bc.toNat) ∨
      (i = .inir ∨ i = .indr ∨ i = .otir ∨ i = .otdr) ∧ n = (if s.main.b = 0 then 256 else s.main.b.toNat)) :
    ∃ o d, o ≠ BlockOp.search ∧ (i, d, true) ∈ o.rows ∧ n = o.repeats s + 1 := by
  have hword (w : Word) : (if w = 0 then 65536 else w.toNat) = (w - 1).toNat + 1 := by split <;> bv_omega
  have hbyte (b : Byte) : (if b = 0 then 256 else b.toNat) = (b - 1).toNat + 1 := by split <;> bv_omega
  obtain ⟨rfl | rfl, rfl⟩ | ⟨rfl | rfl | rfl | rfl, rfl⟩ := h
  · exact ⟨.move, .inc, nofun, by simp [BlockOp.rows], hword _⟩
  · exact ⟨.move, .dec, nofun, by simp [BlockOp.rows], hword _⟩
  · exact ⟨.input, .inc, nofun, by simp [BlockOp.rows], hbyte _⟩
  · exact ⟨.input, .dec, nofun, by simp [BlockOp.rows], hbyte _⟩
  · exact ⟨.output, .inc, nofun, by simp [BlockOp.rows], hbyte _⟩
  · exact ⟨.output, .dec, nofun, by simp [BlockOp.rows], hbyte _⟩

/-- Settles O43: each iteration steps the counter down, PC leaves the row with the iteration that finds no other to come, and the run is an
induction on the iterations before it. -/
theorem repeatCount : Obligations.RepeatCount := by
  unfold Obligations.RepeatCount
  intro i s n k h hk
  obtain ⟨o, d, ho, hrow, hn⟩ := counted_rows h
  exact repeated_count ho hrow hn hk

end Sys2Proof.Machine
end

section
/-! PROOFS. 8-bit arithmetic and logic (spec/44_alu8.md R230 to R250): the sum and the difference against exact arithmetic, and the ALU, INC and
DEC rows on every operand form. -/

namespace Sys2Proof.Machine

/-! ## The flag terms as arithmetic -/

/-- Bit 4 of two operands and their result together is the parity of their high nibbles' sum. -/
theorem xor_getLsbD_four (a b r : Byte) :
    (a ^^^ b ^^^ r).getLsbD 4 = decide ((a.toNat / 16 + b.toNat / 16 + r.toNat / 16) % 2 = 1) := by
  rw [BitVec.getLsbD_xor, BitVec.getLsbD_xor]
  simp only [BitVec.getLsbD, Nat.testBit_eq_decide_div_mod_eq, xor_decide_odd]

/-- The mask of the overflow terms keeps the sign (R232, R233). -/
theorem and_0x80_bne_zero (v : Byte) : (v &&& 0x80 != 0) = v.msb := by
  revert v
  decide

/-- The overflow term of a sum compares signs (R232). -/
theorem overflowTerm_add (a b r : Byte) :
    ((a ^^^ b ^^^ 0x80) &&& (b ^^^ r) &&& 0x80 != 0) = decide ((a.toInt < 0 ↔ b.toInt < 0) ∧ ¬(b.toInt < 0 ↔ r.toInt < 0)) := by
  have hsign : (0x80 : Byte).msb = true := rfl
  rw [and_0x80_bne_zero, BitVec.msb_and, BitVec.msb_xor, BitVec.msb_xor, BitVec.msb_xor, hsign, Bool.eq_iff_iff]
  simp only [BitVec.msb_eq_toInt, Bool.xor_true, Bool.and_eq_true, Bool.not_eq_true', bne_eq_false_iff_eq, Bool.xor_iff_ne, ne_eq,
    decide_eq_decide, decide_eq_true_iff]

/-- The overflow term of a difference compares signs (R233). -/
theorem overflowTerm_sub (a b r : Byte) :
    ((a ^^^ b) &&& (a ^^^ r) &&& 0x80 != 0) = decide (¬(a.toInt < 0 ↔ b.toInt < 0) ∧ ¬(a.toInt < 0 ↔ r.toInt < 0)) := by
  rw [and_0x80_bne_zero, BitVec.msb_and, BitVec.msb_xor, BitVec.msb_xor, Bool.eq_iff_iff]
  simp only [BitVec.msb_eq_toInt, Bool.and_eq_true, Bool.xor_iff_ne, ne_eq, decide_eq_decide, decide_eq_true_iff]

/-! ## The sum -/

/-- The sum is exact modulo 256 (R232). -/
theorem add8_fst_toNat (a b : Byte) (cin : Bool) : (add8 a b cin).1.toNat = (a.toNat + b.toNat + cin.toNat) % 256 :=
  BitVec.toNat_ofNat _ 8

/-- The flags of a sum (R232): the carries are those of the exact sum, and P/V is its leaving the signed range. -/
theorem add8_flags (a b : Byte) (cin : Bool) :
    (add8 a b cin).2 = Flags.ofResult (add8 a b cin).1 {
      s := false, z := false, f5 := false, f3 := false
      h := decide (a.toNat % 16 + b.toNat % 16 + cin.toNat ≥ 16)
      pv := decide (a.toInt + b.toInt + cin.toNat < -128 ∨ a.toInt + b.toInt + cin.toNat > 127)
      n := false
      c := decide (a.toNat + b.toNat + cin.toNat ≥ 256) } := by
  have hc := cin.toNat_lt
  have hr := add8_fst_toNat a b cin
  have hh : (a ^^^ b ^^^ (add8 a b cin).1).getLsbD 4 = decide (a.toNat % 16 + b.toNat % 16 + cin.toNat ≥ 16) := by
    rw [xor_getLsbD_four, decide_eq_decide]
    omega
  have hpv : ((a ^^^ b ^^^ 0x80) &&& (b ^^^ (add8 a b cin).1) &&& 0x80 != 0) =
      decide (a.toInt + b.toInt + cin.toNat < -128 ∨ a.toInt + b.toInt + cin.toNat > 127) := by
    rw [overflowTerm_add, decide_eq_decide]
    simp only [BitVec.toInt_eq_toNat_cond]
    omega
  have hcarry : (a.toNat + b.toNat + cin.toNat).testBit 8 = decide (a.toNat + b.toNat + cin.toNat ≥ 256) := by
    rw [Nat.testBit_eq_decide_div_mod_eq, decide_eq_decide]
    omega
  rw [← hh, ← hpv, ← hcarry, Flags.ofResult, ← Bool.beq_eq_decide_eq]
  rfl

/-! ## The difference -/

/-- The difference is exact modulo 256: the widening to 512 keeps it from going below 0 (R233). -/
theorem sub8_fst_toNat (a b : Byte) (cin : Bool) :
    ((sub8 a b cin).1.toNat : Int) = ((a.toNat : Int) - b.toNat - cin.toNat) % 256 := by
  have hc := cin.toNat_lt
  have hr : (sub8 a b cin).1.toNat = (512 + a.toNat - b.toNat - cin.toNat) % 512 % 256 := BitVec.toNat_ofNat _ 8
  omega

/-- The flags of a difference (R233): the borrows are those of the exact difference, and P/V is its leaving the signed range. -/
theorem sub8_flags (a b : Byte) (cin : Bool) :
    (sub8 a b cin).2 = Flags.ofResult (sub8 a b cin).1 {
      s := false, z := false, f5 := false, f3 := false
      h := decide (a.toNat % 16 < b.toNat % 16 + cin.toNat)
      pv := decide (a.toInt - b.toInt - cin.toNat < -128 ∨ a.toInt - b.toInt - cin.toNat > 127)
      n := true
      c := decide (a.toNat < b.toNat + cin.toNat) } := by
  have hc := cin.toNat_lt
  have hr := sub8_fst_toNat a b cin
  have hh : (a ^^^ b ^^^ (sub8 a b cin).1).getLsbD 4 = decide (a.toNat % 16 < b.toNat % 16 + cin.toNat) := by
    rw [xor_getLsbD_four, decide_eq_decide]
    omega
  have hpv : ((a ^^^ b) &&& (a ^^^ (sub8 a b cin).1) &&& 0x80 != 0) =
      decide (a.toInt - b.toInt - cin.toNat < -128 ∨ a.toInt - b.toInt - cin.toNat > 127) := by
    rw [overflowTerm_sub, decide_eq_decide]
    simp only [BitVec.toInt_eq_toNat_cond]
    omega
  have hborrow : ((512 + a.toNat - b.toNat - cin.toNat) % 512).testBit 8 = decide (a.toNat < b.toNat + cin.toNat) := by
    rw [Nat.testBit_eq_decide_div_mod_eq, decide_eq_decide]
    omega
  rw [← hh, ← hpv, ← hborrow, Flags.ofResult, ← Bool.beq_eq_decide_eq]
  rfl

/-- Settles O45: the masks and the bit 8 of the widened value are the carries and the signed overflow of exact arithmetic. -/
theorem addAndSubAreExact : Obligations.AddAndSubAreExact := by
  unfold Obligations.AddAndSubAreExact
  exact fun a b cin => ⟨⟨add8_fst_toNat a b cin, add8_flags a b cin⟩, sub8_fst_toNat a b cin, sub8_flags a b cin⟩

/-! ## Parity and logic -/

/-- A bit is whether its number is odd. -/
theorem decide_toNat_odd (b : Bool) : decide (b.toNat % 2 = 1) = b := by
  cases b <;> rfl

/-- The parity bit is set when the number of 1 bits is even (R231): the exclusive or of the bits is that number modulo 2. -/
theorem parity_eq (v : Byte) : parity v = decide (onesIn v % 2 = 0) := by
  have hxor : parity v = !decide (onesIn v % 2 = 1) := by
    rw [parity, onesIn]
    simp only [← xor_decide_odd, decide_toNat_odd]
  rw [hxor, ← decide_not, decide_eq_decide]
  exact Nat.mod_two_ne_one

/-- Settles O46: `parity_eq` for every byte, and R231's examples. -/
theorem parityCountsOnes : Obligations.ParityCountsOnes := by
  unfold Obligations.ParityCountsOnes
  exact ⟨parity_eq, rfl, rfl, rfl, rfl⟩

/-- The flags of AND, XOR and OR: those every result sets, and its parity (R234). -/
theorem logicFlags_eq (r : Byte) (h : Bool) :
    logicFlags r h = Flags.ofResult r { s := false, z := false, f5 := false, f3 := false, h := h, pv := parity r, n := false, c := false } := by
  rw [logicFlags, Bool.beq_eq_decide_eq]
  rfl

/-- A row that has the form of a two-operand ALU operation runs it. -/
theorem shapeOf_of_alu {i : Instr} {op : AluOp} {src : Src8} (h : form i = .alu op src) : shapeOf i = .alu op src (tstates i).1 := by
  rw [shapeOf, h]

/-- Settles O44: the row runs the operation that its form names on A and the operand. -/
theorem aluForms : Obligations.AluForms := by
  unfold Obligations.AluForms
  rintro i s op src _ _ h rfl rfl
  refine ⟨aluApply op s.main.a (s.src8 src) s.flags, ?_, ?_⟩
  · rw [exec_eq_run, shapeOf_of_alu h]
    rfl
  · cases op with
    | add | adc | sub | sbc | cp => rfl
    | and | xor | or => rw [aluApply, logicFlags_eq]

/-! ## INC and DEC -/

/-- The low nibble, as a mask and as a remainder. -/
theorem and_0x0F_beq (v k : Byte) : (v &&& 0x0F == k) = decide (v.toNat % 16 = k.toNat) := by
  have hmask : (v &&& 0x0F).toNat = v.toNat % 16 := Nat.and_two_pow_sub_one_eq_mod v.toNat 4
  rw [Bool.beq_eq_decide_eq, decide_eq_decide, ← BitVec.toNat_inj, hmask]

/-- INC is the sum with 1, but for C (R235): H and P/V by their closed forms are the carry and the overflow of that sum. -/
theorem inc8_eq (v : Byte) (fl : Flags) : inc8 v fl = (v + 1, { (add8 v 1 false).2 with c := fl.c }) := by
  have hr : (add8 v 1 false).1 = v + 1 := BitVec.eq_of_toNat_eq (add8_fst_toNat v 1 false)
  have hh : (v &&& 0x0F == 0x0F) = decide (v.toNat % 16 + (1 : Byte).toNat % 16 + false.toNat ≥ 16) := by
    rw [and_0x0F_beq, decide_eq_decide]
    bv_omega
  have hone : (1 : Byte).toInt = 1 := rfl
  have hpv : (v == 0x7F) = decide (v.toInt + (1 : Byte).toInt + false.toNat < -128 ∨ v.toInt + (1 : Byte).toInt + false.toNat > 127) := by
    rw [Bool.beq_eq_decide_eq, decide_eq_decide, BitVec.toInt_eq_toNat_cond, hone]
    bv_omega
  rw [add8_flags, hr, inc8, hh, hpv, Bool.beq_eq_decide_eq]
  rfl

/-- DEC is the difference with 1, but for C (R236). -/
theorem dec8_eq (v : Byte) (fl : Flags) : dec8 v fl = (v - 1, { (sub8 v 1 false).2 with c := fl.c }) := by
  have hr : (sub8 v 1 false).1 = v - 1 := by
    have hsub := sub8_fst_toNat v 1 false
    bv_omega
  have hh : (v &&& 0x0F == 0x00) = decide (v.toNat % 16 < (1 : Byte).toNat % 16 + false.toNat) := by
    rw [and_0x0F_beq, decide_eq_decide]
    bv_omega
  have hone : (1 : Byte).toInt = 1 := rfl
  have hpv : (v == 0x80) = decide (v.toInt - (1 : Byte).toInt - false.toNat < -128 ∨ v.toInt - (1 : Byte).toInt - false.toNat > 127) := by
    rw [Bool.beq_eq_decide_eq, decide_eq_decide, BitVec.toInt_eq_toNat_cond, hone]
    bv_omega
  rw [sub8_flags, hr, dec8, hh, hpv, Bool.beq_eq_decide_eq]
  rfl

/-- The operation of an INC or a DEC row. -/
def incDecOp (d : Dir) : Byte → Flags → Byte × Flags :=
  match d with
  | .inc => inc8
  | .dec => dec8

/-- A row that has the form of an INC or a DEC modifies its operand by that operation. -/
theorem shapeOf_of_incDec {i : Instr} {d : Dir} {l : Loc8} (h : form i = .incDec d l) :
    shapeOf i = .modify8 (incDecOp d) l (tstates i).1 := by
  rw [shapeOf, h]
  cases d <;> rfl

/-- Settles O47: the row modifies the operand that its form names, and `inc8_eq` and `dec8_eq` say what the operation gives. -/
theorem incDecForms : Obligations.IncDecForms := by
  unfold Obligations.IncDecForms
  rintro i s d l _ h rfl
  rw [exec_eq_run, shapeOf_of_incDec h, Shape.run, modify8_eq]
  cases d with
  | inc => rw [incDecOp, inc8_eq]
  | dec => rw [incDecOp, dec8_eq]

end Sys2Proof.Machine
end

section
/-! PROOFS. General-purpose arithmetic and CPU control (spec/45_cpu_control.md R260 to R272, spec/60_exceptions.md R403, R420): the inhibit
of EI, the halt cycle, the accumulator rows, and DAA against decimal arithmetic. -/

namespace Sys2Proof.Machine

/-! ## The inhibit of EI -/

/-- The inhibit of EI keeps a maskable request out of the boundary (R403). -/
theorem boundary_of_afterEi {s : State} (hei : s.intInhibit = .afterEi) (hnmi : s.nmiReq = false) : boundary s = .run := by
  simp [boundary, maskableEnabled, hei, hnmi]

/-- Only EI and a wasted DD or FD write the inhibit (R38). -/
theorem Shape.run_intInhibit {sh : Shape} {s t : State} (hei : sh ≠ .ei) (hw : sh.control ≠ some .intInhibit) (h : sh.run s = .next t) :
    t.intInhibit = s.intInhibit := by
  by_cases hc : sh.control = none
  · exact congrArg Rest.intInhibit (sh.run_rest hc h)
  cases sh with
  | ei => exact absurd rfl hei
  | wastedPrefix => exact absurd rfl hw
  | exchangeAF | exchangeBanks | loadAI | loadIA | loadRA | setIntMode | di | retInt | halt =>
    obtain rfl := Host.Outcome.next.inj h
    rfl
  | _ => exact absurd rfl hc

theorem eq_ei_of_shapeOf {i : Instr} (h : shapeOf i = .ei) : i = .ei := by
  cases i with
  | ei => rfl
  | _ => cases h

theorem exec_intInhibit {i : Instr} {s t : State} (hei : i ≠ .ei) (hdd : i ≠ .wastedDD) (hfd : i ≠ .wastedFD) (h : exec i s = .next t) :
    t.intInhibit = s.intInhibit := by
  have hw : (shapeOf i).control ≠ some .intInhibit := by simp [control_shapeOf, controlOf_eq_some, hdd, hfd]
  rw [exec_eq_run] at h
  exact Shape.run_intInhibit (fun he => hei (eq_ei_of_shapeOf he)) hw h

/-- A step from a boundary that accepts nothing leaves no inhibit, unless it runs EI or a wasted prefix: the latch covers exactly one
boundary (R130). -/
theorem step_intInhibit {s t : State} (hb : boundary s.sample = .run) (h : step s = .next t)
    (hei : decodeAt s.sample.clearInhibit ≠ .ei) (hdd : decodeAt s.sample.clearInhibit ≠ .wastedDD)
    (hfd : decodeAt s.sample.clearInhibit ≠ .wastedFD) : t.intInhibit = .none := by
  obtain ⟨hnmi, -⟩ | ⟨hint, -⟩ | ⟨-, -, rfl⟩ | ⟨-, -, hexec⟩ := step_cases h
  · cases hb.symm.trans hnmi
  · cases hb.symm.trans hint
  · rfl
  · exact exec_intInhibit hei hdd hfd hexec

/-- Settles O23: the latch that EI sets keeps INT out of the next boundary, and the step from there clears it. -/
theorem eiDelaysMaskable : Obligations.EiDelaysMaskable := by
  unfold Obligations.EiDelaysMaskable
  intro s
  have hrun {t : State} (ht : t.intInhibit = .afterEi) (hnmi : t.sample.nmiReq = false) : boundary t.sample = .run :=
    boundary_of_afterEi ((State.sample_intInhibit t).trans ht) hnmi
  exact ⟨_, rfl, rfl, hrun rfl, fun u hnmi hstep => step_intInhibit (hrun rfl hnmi) hstep⟩

/-! ## HALT -/

/-- Settles O25: a halted engine that accepts nothing runs a halt cycle, and the host's inputs leave R and the cycle counter as they were. -/
theorem haltCycles : Obligations.HaltCycles := by
  unfold Obligations.HaltCycles
  refine ⟨fun _ => rfl, fun s hh hb => ?_⟩
  rw [step_of_halted hh hb, ← State.sample_r s, ← State.sample_cycles s]
  rfl

/-! ## The accumulator and the control rows -/

/-- Bytes that the ED table gives the mirrors of one two-byte row decode to it, with the mirror's code bits (log 13). -/
theorem decode_edMirrors {bytes : List Byte} {row : Oct → Instr} (hrow : ∀ b ∈ bytes, decodeED b 0 0 = row (fieldY b))
    (hformat : ∀ y, (row y).format = .ed2) : ∀ b ∈ bytes, ∃ y, decode [0xED, b] = .ok (row y, []) := by
  intro b hb
  have hlength : (row (fieldY b)).length = 2 := by rw [Instr.length, hformat]; rfl
  have hfetch : (row (fieldY b)).fetchCount = 2 := by rw [fetchCount_eq_length (by rw [hformat]; decide), hlength]
  exact ⟨fieldY b, decode_eq_ok_iff.mpr ⟨hrow b hb, hfetch.le, by rw [hlength]; rfl⟩⟩

/-- The low nibble, as a mask and as a remainder. -/
theorem and_0x0F_toNat (v : Byte) : (v &&& 0x0F).toNat = v.toNat % 16 := Nat.and_two_pow_sub_one_eq_mod v.toNat 4

/-- NEG borrows from every byte but 0 (R262). -/
theorem neg_carry (a : Byte) : (sub8 0 a false).2.c = decide (a ≠ 0) := by
  rw [sub8_flags, Flags.ofResult, decide_eq_decide]
  bv_omega

/-- Of the signed bytes only -128 has no negation (R262). -/
theorem neg_overflow (a : Byte) : (sub8 0 a false).2.pv = decide (a = 0x80) := by
  have hzero : (0 : Byte).toInt = 0 := rfl
  rw [sub8_flags, Flags.ofResult, decide_eq_decide, hzero, BitVec.toInt_eq_toNat_cond]
  bv_omega

/-- Settles O48: each row is its flag computation, and NEG's flags are those of an exact difference. -/
theorem accumulatorOperations : Obligations.AccumulatorOperations := by
  unfold Obligations.AccumulatorOperations
  refine ⟨decode_encode (i := .daa) rfl rfl, decode_encode (i := .cpl) rfl rfl, decode_encode (i := .ccf) rfl rfl,
    decode_encode (i := .scf) rfl rfl, decode_edMirrors (row := .neg) (by decide) (fun _ => rfl), ?_, ?_, fun _ _ => rfl,
    fun s => ⟨neg_carry s.main.a, neg_overflow s.main.a⟩, fun _ => rfl, fun _ => rfl⟩
  · rintro s _ _ rfl rfl
    rw [← and_0x0F_toNat]
    rfl
  · rintro s _ rfl
    rfl

/-- Settles O50: the encodings through the encoder and the ED table, and each row as the one field that it writes. -/
theorem controlInstructions : Obligations.ControlInstructions := by
  unfold Obligations.ControlInstructions
  exact ⟨decode_encode (i := .di) rfl rfl, decode_encode (i := .nop) rfl rfl, decode_edMirrors (row := .im0) (by decide) (fun _ => rfl),
    decode_edMirrors (row := .im1) (by decide) (fun _ => rfl), decode_edMirrors (row := .im2) (by decide) (fun _ => rfl),
    decode_edMirrors (row := .edNop) (by decide) (fun _ => rfl), fun _ => rfl, fun _ _ => rfl, fun _ _ => rfl, fun _ _ => rfl,
    fun _ => rfl, fun _ => rfl, fun _ _ => rfl, fun _ _ => rfl⟩

/-! ## DAA -/

/-- Whether DAA corrects the low digit (R260). -/
def daaLow (a : Byte) (fl : Flags) : Bool := fl.h || decide (a.toNat % 16 > 9)

/-- Whether DAA corrects the high digit (R260). -/
def daaHigh (a : Byte) (fl : Flags) : Bool := fl.c || decide (a.toNat > 0x99)

/-- The correction of DAA as a number. -/
def daaCorrection (a : Byte) (fl : Flags) : Nat := (if daaLow a fl then 0x06 else 0) + (if daaHigh a fl then 0x60 else 0)

/-- DAA takes its correction off A after a difference, and adds it after a sum. -/
theorem daa_fst (a : Byte) (fl : Flags) :
    (Machine.daa a fl).1 = if fl.n then a - BitVec.ofNat 8 (daaCorrection a fl) else a + BitVec.ofNat 8 (daaCorrection a fl) := by
  have hcorr : (if daaLow a fl then (0x06 : Byte) else 0x00) ||| (if daaHigh a fl then 0x60 else 0x00) =
      BitVec.ofNat 8 (daaCorrection a fl) := by
    rw [daaCorrection]
    cases daaLow a fl <;> cases daaHigh a fl <;> rfl
  rw [← hcorr, daaLow, ← and_0x0F_toNat]
  rfl

theorem daa_carry (a : Byte) (fl : Flags) : (Machine.daa a fl).2.c = daaHigh a fl := rfl

/-- A packed BCD byte is the number and 6 more for each ten. -/
theorem bcd_toNat {n : Nat} (h : n < 100) : (bcd n).toNat = n + 6 * (n / 10) := by
  rw [bcd, BitVec.toNat_ofNat]
  omega

theorem bcd_mod_sixteen {n : Nat} (h : n < 100) : (bcd n).toNat % 16 = n % 10 := by
  rw [bcd_toNat h]
  omega

theorem bcd_le {n : Nat} (h : n < 100) : (bcd n).toNat ≤ 0x99 := by
  rw [bcd_toNat h]
  omega

section
variable {m n : Nat} (hm : m < 100) (hn : n < 100) (cin : Bool)
include hm hn

/-- After a sum DAA corrects the low digit where the decimal digits carry: their sum is then above 9 in the nibble, or has left it. -/
theorem daaLow_add8_bcd : daaLow (add8 (bcd m) (bcd n) cin).1 (add8 (bcd m) (bcd n) cin).2 = decide (10 ≤ m % 10 + n % 10 + cin.toNat) := by
  have hc := cin.toNat_lt
  have hx := add8_fst_toNat (bcd m) (bcd n) cin
  have hml := bcd_mod_sixteen hm
  have hnl := bcd_mod_sixteen hn
  rw [daaLow, add8_flags, Flags.ofResult, ← Bool.decide_or, decide_eq_decide]
  omega

/-- After a sum DAA corrects the high digit where the decimal sum carries. -/
theorem daaHigh_add8_bcd : daaHigh (add8 (bcd m) (bcd n) cin).1 (add8 (bcd m) (bcd n) cin).2 = decide (100 ≤ m + n + cin.toNat) := by
  have hc := cin.toNat_lt
  have hx := add8_fst_toNat (bcd m) (bcd n) cin
  have hmd := bcd_toNat hm
  have hnd := bcd_toNat hn
  rw [daaHigh, add8_flags, Flags.ofResult, ← Bool.decide_or, decide_eq_decide]
  omega

/-- After a difference DAA corrects the low digit where the decimal digits borrow. -/
theorem daaLow_sub8_bcd : daaLow (sub8 (bcd m) (bcd n) cin).1 (sub8 (bcd m) (bcd n) cin).2 = decide (m % 10 < n % 10 + cin.toNat) := by
  have hc := cin.toNat_lt
  have hx := sub8_fst_toNat (bcd m) (bcd n) cin
  have hml := bcd_mod_sixteen hm
  have hnl := bcd_mod_sixteen hn
  rw [daaLow, sub8_flags, Flags.ofResult, ← Bool.decide_or, decide_eq_decide]
  omega

/-- After a difference DAA corrects the high digit where the decimal difference borrows; without a borrow it is at most the minuend. -/
theorem daaHigh_sub8_bcd : daaHigh (sub8 (bcd m) (bcd n) cin).1 (sub8 (bcd m) (bcd n) cin).2 = decide (m < n + cin.toNat) := by
  have hc := cin.toNat_lt
  have hx := sub8_fst_toNat (bcd m) (bcd n) cin
  have hmax := bcd_le hm
  have hmd := bcd_toNat hm
  have hnd := bcd_toNat hn
  rw [daaHigh, sub8_flags, Flags.ofResult, ← Bool.decide_or, decide_eq_decide]
  omega

/-- The corrected sum is the decimal one: 6 for the carry into the tens, and 0x60 for the carry out of them. -/
theorem daa_add8_bcd : (Machine.daa (add8 (bcd m) (bcd n) cin).1 (add8 (bcd m) (bcd n) cin).2).1 = bcd ((m + n + cin.toNat) % 100) := by
  have hc := cin.toNat_lt
  have hx := add8_fst_toNat (bcd m) (bcd n) cin
  have hplus : (add8 (bcd m) (bcd n) cin).2.n = false := rfl
  rw [bcd_toNat hm, bcd_toNat hn] at hx
  apply BitVec.eq_of_toNat_eq
  rw [daa_fst, hplus, if_neg (by decide), daaCorrection, daaLow_add8_bcd hm hn, daaHigh_add8_bcd hm hn, BitVec.toNat_add, BitVec.toNat_ofNat,
    bcd_toNat (Nat.mod_lt _ (by decide))]
  simp only [decide_eq_true_iff]
  split <;> split <;> omega

/-- The corrected difference is the decimal one, modulo 100. -/
theorem daa_sub8_bcd : (Machine.daa (sub8 (bcd m) (bcd n) cin).1 (sub8 (bcd m) (bcd n) cin).2).1 = bcd ((m + 100 - n - cin.toNat) % 100) := by
  have hc := cin.toNat_lt
  have hx := sub8_fst_toNat (bcd m) (bcd n) cin
  have hminus : (sub8 (bcd m) (bcd n) cin).2.n = true := rfl
  rw [bcd_toNat hm, bcd_toNat hn] at hx
  apply BitVec.eq_of_toNat_eq
  rw [daa_fst, hminus, if_pos rfl, daaCorrection, daaLow_sub8_bcd hm hn, daaHigh_sub8_bcd hm hn, BitVec.toNat_sub, BitVec.toNat_ofNat,
    bcd_toNat (Nat.mod_lt _ (by decide))]
  simp only [decide_eq_true_iff]
  split <;> split <;> omega

end

/-- Settles O49: DAA's two corrections are the two decimal carries or borrows, and the high one is the carry it leaves. -/
theorem daaIsDecimal : Obligations.DaaIsDecimal := by
  unfold Obligations.DaaIsDecimal
  intro m n cin hm hn
  constructor
  · rintro _ rfl
    exact ⟨daa_add8_bcd hm hn cin, (daa_carry _ _).trans (daaHigh_add8_bcd hm hn cin)⟩
  · rintro _ rfl
    exact ⟨daa_sub8_bcd hm hn cin, (daa_carry _ _).trans (daaHigh_sub8_bcd hm hn cin)⟩

end Sys2Proof.Machine
end

section
/-! PROOFS. 16-bit arithmetic (spec/46_alu16.md R280 to R287): the sums and the difference against exact arithmetic, and every row. -/

namespace Sys2Proof.Machine

/-! ## The flag terms as arithmetic -/

/-- A bit of two operands and their result together is the parity of the sum of what each holds from that bit up, at every width. -/
theorem xor_getLsbD_eq_odd {w : Nat} (a b r : BitVec w) (k : Nat) :
    (a ^^^ b ^^^ r).getLsbD k = decide ((a.toNat / 2 ^ k + b.toNat / 2 ^ k + r.toNat / 2 ^ k) % 2 = 1) := by
  rw [BitVec.getLsbD_xor, BitVec.getLsbD_xor]
  simp only [BitVec.getLsbD, Nat.testBit_eq_decide_div_mod_eq, xor_decide_odd]

/-- The mask of the 16-bit overflow terms keeps the sign (R281, R282). -/
theorem and_0x8000_bne_zero (v : Word) : (v &&& 0x8000 != 0) = v.msb := by
  have hmask : v &&& 0x8000 = if v.getLsbD 15 then 0x8000 else 0 := BitVec.and_twoPow v 15
  rw [hmask, BitVec.msb_eq_getLsbD_last]
  cases v.getLsbD 15 <;> rfl

/-! ## The sums -/

section
variable (a b : Word) (cin : Bool)

/-- The sum of ADC is exact modulo 0x10000 (R281). -/
theorem adc16_fst_toNat : (adc16 a b cin).1.toNat = (a.toNat + b.toNat + cin.toNat) % 65536 :=
  BitVec.toNat_ofNat _ 16

/-- H of ADC is the carry out of bit 11 (R281). -/
theorem adc16_halfCarry : (adc16 a b cin).2.h = decide (a.toNat % 4096 + b.toNat % 4096 + cin.toNat ≥ 4096) := by
  have hc := cin.toNat_lt
  have hr := adc16_fst_toNat a b cin
  calc (adc16 a b cin).2.h = (a ^^^ b ^^^ (adc16 a b cin).1).getLsbD 12 := rfl
    _ = _ := by
      rw [xor_getLsbD_eq_odd, decide_eq_decide]
      omega

/-- C of ADC is the carry out of bit 15 (R281). -/
theorem adc16_carry : (adc16 a b cin).2.c = decide (a.toNat + b.toNat + cin.toNat ≥ 65536) := by
  have hc := cin.toNat_lt
  calc (adc16 a b cin).2.c = (a.toNat + b.toNat + cin.toNat).testBit 16 := rfl
    _ = _ := by
      rw [Nat.testBit_eq_decide_div_mod_eq, decide_eq_decide]
      omega

/-- P/V of ADC is the signed sum's leaving the range of 16 bits (R281). -/
theorem adc16_overflow :
    (adc16 a b cin).2.pv = decide (a.toInt + b.toInt + cin.toNat < -32768 ∨ a.toInt + b.toInt + cin.toNat > 32767) := by
  have hc := cin.toNat_lt
  have hr := adc16_fst_toNat a b cin
  have hsign : (0x8000 : Word).msb = true := rfl
  calc (adc16 a b cin).2.pv = ((a ^^^ b ^^^ 0x8000) &&& (b ^^^ (adc16 a b cin).1) &&& 0x8000 != 0) := rfl
    _ = _ := by
      rw [and_0x8000_bne_zero, BitVec.msb_and, BitVec.msb_xor, BitVec.msb_xor, BitVec.msb_xor, hsign, Bool.eq_iff_iff]
      simp only [BitVec.msb_eq_toInt, BitVec.toInt_eq_toNat_cond, Bool.xor_true, Bool.and_eq_true, Bool.not_eq_true',
        bne_eq_false_iff_eq, Bool.xor_iff_ne, ne_eq, decide_eq_decide, decide_eq_true_iff]
      omega

/-- The flags of ADC (R281). -/
theorem adc16_flags :
    (adc16 a b cin).2 = {
      s := (adc16 a b cin).1.getLsbD 15
      z := decide ((adc16 a b cin).1 = 0)
      f5 := (adc16 a b cin).1.getLsbD 13
      h := decide (a.toNat % 4096 + b.toNat % 4096 + cin.toNat ≥ 4096)
      f3 := (adc16 a b cin).1.getLsbD 11
      pv := decide (a.toInt + b.toInt + cin.toNat < -32768 ∨ a.toInt + b.toInt + cin.toNat > 32767)
      n := false
      c := decide (a.toNat + b.toNat + cin.toNat ≥ 65536) } := by
  rw [← adc16_halfCarry, ← adc16_overflow, ← adc16_carry, ← Bool.beq_eq_decide_eq]
  rfl

/-! ## The difference -/

/-- The difference of SBC is exact modulo 0x10000 (R282). -/
theorem sbc16_fst_toNat : ((sbc16 a b cin).1.toNat : Int) = ((a.toNat : Int) - b.toNat - cin.toNat) % 65536 := by
  have hc := cin.toNat_lt
  have hr : (sbc16 a b cin).1.toNat = (131072 + a.toNat - b.toNat - cin.toNat) % 131072 % 65536 := BitVec.toNat_ofNat _ 16
  omega

/-- H of SBC is the borrow that bit 11 takes from bit 12 (R282). -/
theorem sbc16_halfBorrow : (sbc16 a b cin).2.h = decide (a.toNat % 4096 < b.toNat % 4096 + cin.toNat) := by
  have hc := cin.toNat_lt
  have hr := sbc16_fst_toNat a b cin
  calc (sbc16 a b cin).2.h = (a ^^^ b ^^^ (sbc16 a b cin).1).getLsbD 12 := rfl
    _ = _ := by
      rw [xor_getLsbD_eq_odd, decide_eq_decide]
      omega

/-- C of SBC is the borrow out of bit 15 (R282). -/
theorem sbc16_borrow : (sbc16 a b cin).2.c = decide (a.toNat < b.toNat + cin.toNat) := by
  have hc := cin.toNat_lt
  calc (sbc16 a b cin).2.c = ((131072 + a.toNat - b.toNat - cin.toNat) % 131072).testBit 16 := rfl
    _ = _ := by
      rw [Nat.testBit_eq_decide_div_mod_eq, decide_eq_decide]
      omega

/-- P/V of SBC is the signed difference's leaving the range of 16 bits (R282). -/
theorem sbc16_overflow :
    (sbc16 a b cin).2.pv = decide (a.toInt - b.toInt - cin.toNat < -32768 ∨ a.toInt - b.toInt - cin.toNat > 32767) := by
  have hc := cin.toNat_lt
  have hr := sbc16_fst_toNat a b cin
  calc (sbc16 a b cin).2.pv = ((a ^^^ b) &&& (a ^^^ (sbc16 a b cin).1) &&& 0x8000 != 0) := rfl
    _ = _ := by
      rw [and_0x8000_bne_zero, BitVec.msb_and, BitVec.msb_xor, BitVec.msb_xor, Bool.eq_iff_iff]
      simp only [BitVec.msb_eq_toInt, BitVec.toInt_eq_toNat_cond, Bool.and_eq_true, Bool.xor_iff_ne, ne_eq, decide_eq_decide,
        decide_eq_true_iff]
      omega

/-- The difference of SBC as an integer reduced to 16 bits (R282). -/
theorem sbc16_fst : (sbc16 a b cin).1 = BitVec.ofInt 16 ((a.toNat : Int) - b.toNat - cin.toNat) := by
  have hr := sbc16_fst_toNat a b cin
  refine BitVec.eq_of_toNat_eq ?_
  rw [BitVec.toNat_ofInt]
  omega

/-- The flags of SBC (R282). -/
theorem sbc16_flags :
    (sbc16 a b cin).2 = {
      s := (sbc16 a b cin).1.getLsbD 15
      z := decide ((sbc16 a b cin).1 = 0)
      f5 := (sbc16 a b cin).1.getLsbD 13
      h := decide (a.toNat % 4096 < b.toNat % 4096 + cin.toNat)
      f3 := (sbc16 a b cin).1.getLsbD 11
      pv := decide (a.toInt - b.toInt - cin.toNat < -32768 ∨ a.toInt - b.toInt - cin.toNat > 32767)
      n := true
      c := decide (a.toNat < b.toNat + cin.toNat) } := by
  rw [← sbc16_halfBorrow, ← sbc16_overflow, ← sbc16_borrow, ← Bool.beq_eq_decide_eq]
  rfl

end

/-- ADD takes from the sum with no carry in what it writes, and S, Z and P/V from the flags before (R280, R283). -/
theorem add16_eq (a b : Word) (fl : Flags) :
    add16 a b fl = ((adc16 a b false).1, { fl with
      h := (adc16 a b false).2.h, n := false, c := (adc16 a b false).2.c
      f5 := (adc16 a b false).1.getLsbD 13, f3 := (adc16 a b false).1.getLsbD 11 }) := rfl

/-! ## Shapes -/

/-- A 16-bit ADD (R280, R283). -/
theorem addPair_eq (dst src : Reg16) (t : Nat) (s : State) :
    addPair dst src t s = .next (((s.set16 dst (add16 (s.get16 dst) (s.get16 src) s.flags).1).setFlags
      (add16 (s.get16 dst) (s.get16 src) s.flags).2).done plainRecord t) := by
  cases dst <;> rfl

/-- A 16-bit register stepped (R284 to R287). -/
theorem stepPair_eq (d : Dir) (q : Reg16) (t : Nat) (s : State) :
    stepPair d q t s = .next ((s.set16 q (d.step (s.get16 q))).done plainRecord t) := by
  cases q <;> rfl

/-- A 16-bit ADC or SBC (R281, R282). -/
theorem carryPair_eq (f : Word → Word → Bool → Word × Flags) (src : Reg16) (s : State) :
    carryPair f src s = .next (((s.set16 .hl (f s.main.hl (s.get16 src) s.flags.c).1).setFlags
      (f s.main.hl (s.get16 src) s.flags.c).2).done plainRecord 15) := rfl

/-! ## The rows -/

/-- Settles O52: each row runs its pair operation, and the sums and the difference of those operations are the exact ones. -/
theorem arithmetic16 : Obligations.Arithmetic16 := by
  unfold Obligations.Arithmetic16
  refine ⟨?_, ?_, ?_, ?_⟩
  · rintro i s dst src _ _ _ hrow rfl rfl rfl
    have hexec : exec i s = addPair dst src (tstates i).1 s := by
      obtain ⟨_, rfl, rfl, rfl⟩ | ⟨_, rfl, rfl, rfl⟩ | ⟨_, rfl, rfl, rfl⟩ := hrow <;> rfl
    rw [hexec, addPair_eq, add16_eq, adc16_halfCarry, adc16_carry]
    rfl
  · rintro s rp _ _ _ rfl rfl rfl
    have hexec : exec (.adcHLRp rp) s = carryPair adc16 (pairReg rp) s := rfl
    rw [hexec, carryPair_eq, adc16_flags]
    rfl
  · rintro s rp _ _ _ rfl rfl rfl
    have hexec : exec (.sbcHLRp rp) s = carryPair sbc16 (pairReg rp) s := rfl
    rw [hexec, carryPair_eq, sbc16_flags, sbc16_fst]
  · rintro i s q d hrow
    have hexec : exec i s = stepPair d q (tstates i).1 s := by
      obtain ⟨_, rfl, rfl, rfl⟩ | ⟨_, rfl, rfl, rfl⟩ | ⟨rfl, rfl, rfl⟩ | ⟨rfl, rfl, rfl⟩ | ⟨rfl, rfl, rfl⟩ | ⟨rfl, rfl, rfl⟩ := hrow <;> rfl
    rw [hexec, stepPair_eq]
    rfl

end Sys2Proof.Machine
end

section
/-! PROOFS. The rotates, shifts and bit operations (spec/47_rotate_shift_bit.md R300 to R320): each row runs the operation that its form names,
and the shift and mask expressions move the bits as the tables say. -/

namespace Sys2Proof.Machine

/-! ## Rotates and shifts -/

/-- The flags of a rotate or shift: those every result sets, its parity, and the bit moved out (R305). -/
theorem rotFlags_eq (r : Byte) (c : Bool) :
    rotFlags r c = Flags.ofResult r { s := false, z := false, f5 := false, f3 := false, h := false, pv := parity r, n := false, c := c } := by
  rw [rotFlags, logicFlags_eq]
  rfl

/-- The flags that follow a byte and keep C are those of a shift that moves C out (R319, R320, R361). -/
theorem byteFlags_eq_rotFlags (v : Byte) (fl : Flags) : byteFlags v fl = rotFlags v fl.c := rfl

/-- A rotate or shift as an operation on a byte and the flags, bit by bit (R305). -/
theorem rotOp_eq (k : Rot) (v : Byte) (fl : Flags) : rotOp k v fl = (rotByte k v fl.c, rotFlags (rotByte k v fl.c) (rotOut k v)) := by
  rw [rotOp, rotApply_eq]

/-- An accumulator rotate, bit by bit (R300 to R303). -/
theorem rotateA_eq (k : Rot) (s : State) :
    rotateA k s = .next ((s.setAF (rotByte k s.main.a s.flags.c,
      accRotFlags (rotByte k s.main.a s.flags.c) (rotOut k s.main.a) s.flags)).done plainRecord 4) := by
  rw [rotateA, rotApply_eq]
  rfl

/-- A row that has the form of a rotate or shift modifies its operand by it. -/
theorem shapeOf_of_rot {i : Instr} {k : Rot} {l : Loc8} (h : form i = .rot k l) : shapeOf i = .modify8 (rotOp k) l (tstates i).1 := by
  rw [shapeOf, h]

/-- Settles O53: the row rotates A or the operand that its form names, and `rotApply_eq` says where each bit goes. -/
theorem rotateForms : Obligations.RotateForms := by
  unfold Obligations.RotateForms
  constructor
  · rintro s x hx _ rfl
    have hexec : exec x.1 s = rotateA x.2 s := by
      simp only [List.mem_cons, List.not_mem_nil, or_false] at hx
      obtain rfl | rfl | rfl | rfl := hx <;> rfl
    rw [hexec, rotateA_eq]
    rfl
  · rintro i s k l _ h rfl
    rw [exec_eq_run, shapeOf_of_rot h, Shape.run, modify8_eq, rotOp_eq, rotFlags_eq]

/-! ## BIT, RES and SET -/

/-- BIT writes the flags and nothing else (R314 to R316). -/
theorem testBit_eq (b : Oct) (l : Loc8) (f5 f3 : Bool) (t : Nat) (s : State) :
    testBit b l f5 f3 t s = .next ((s.setFlags (bitFlags b (s.get8 l) f5 f3 s.flags)).done plainRecord t) := rfl

/-- Settles O54: every row is a test of a bit, and they differ in the operand and in where F5 and F3 come from. -/
theorem bitForms : Obligations.BitForms := by
  unfold Obligations.BitForms
  refine ⟨fun s b r => testBit_eq b (.reg r) _ _ 8 s, ?_, ?_⟩
  · rintro s b _ rfl
    exact ⟨_, _, testBit_eq b (.mem .hl) (Config.bitF5 s.draw) (Config.bitF3 s.draw) 12 s⟩
  · rintro s x b z d _ _ rfl rfl
    cases x with
    | ix => exact testBit_eq b (.mem (.idx .ix d)) _ _ 20 s
    | iy => exact testBit_eq b (.mem (.idx .iy d)) _ _ 20 s

/-- The mask operations of RES and SET, bit by bit (R317, R318). -/
theorem resBit_eq_resSetByte (b : Oct) : resBit b = resSetByte false b := funext (resBit_eq b)

theorem setBit_eq_resSetByte (b : Oct) : setBit b = resSetByte true b := funext (setBit_eq b)

/-- A row that has the form of RES or SET changes that bit of its operand. -/
theorem shapeOf_of_resSet {i : Instr} {on : Bool} {b : Oct} {l : Loc8} (h : form i = .resSet on b l) :
    shapeOf i = .change8 (resSetByte on b) l (tstates i).1 := by
  rw [shapeOf, h]
  cases on with
  | false => rw [← resBit_eq_resSetByte]
  | true => rw [← setBit_eq_resSetByte]

/-- Settles O55: the row changes the bit of the operand that its form names, and no flag. -/
theorem resAndSetForms : Obligations.ResAndSetForms := by
  unfold Obligations.ResAndSetForms
  intro i s on b l h
  rw [exec_eq_run, shapeOf_of_resSet h]
  exact change8_eq (resSetByte on b) l (tstates i).1 s

/-! ## The register-copy forms -/

/-- A rotate or shift with a register copy: memory, then the register, then the flags (R304). -/
theorem rotateCopy_eq (k : Rot) (x : Idx) (d : Byte) (r : Reg8) (s : State) {v w : Byte}
    (hv : v = s.memRead .data0 (s.addr (.idx x d))) (hw : w = rotByte k v s.flags.c) :
    rotateCopy k x d r s = ifCopyAdmitted s
      (.next ((((s.memWrite (s.addr (.idx x d)) w).setReg r w).setFlags (rotFlags w (rotOut k v))).done plainRecord 23)) := by
  subst hw hv
  rw [rotateCopy, rotOp_eq, State.set8, State.notifyPlain_memWrite, State.notifyPlain_addr]
  rfl

/-- RES or SET with a register copy: memory, then the register (R304). -/
theorem changeCopy_eq (f : Byte → Byte) (x : Idx) (d : Byte) (r : Reg8) (s : State) {w : Byte}
    (hw : w = f (s.memRead .data0 (s.addr (.idx x d)))) :
    changeCopy f x d r s = ifCopyAdmitted s (.next (((s.memWrite (s.addr (.idx x d)) w).setReg r w).done plainRecord 23)) := by
  subst hw
  rw [changeCopy, State.set8, State.notifyPlain_memWrite, State.notifyPlain_addr]
  rfl

/-- A row that has the form of a rotate or shift with a register copy runs it. -/
theorem shapeOf_of_rotCopy {i : Instr} {k : Rot} {x : Idx} {d : Byte} {r : Reg8} (h : form i = .rotCopy k x d r) :
    shapeOf i = .rotateCopy k x d r := by
  rw [shapeOf, h]

/-- A row that has the form of RES or SET with a register copy changes that bit. -/
theorem shapeOf_of_resSetCopy {i : Instr} {on : Bool} {b : Oct} {x : Idx} {d : Byte} {r : Reg8} (h : form i = .resSetCopy on b x d r) :
    shapeOf i = .changeCopy (resSetByte on b) x d r := by
  rw [shapeOf, h]
  cases on with
  | false => rw [← resBit_eq_resSetByte]
  | true => rw [← setBit_eq_resSetByte]

/-- Settles O56: the row is its operation behind the parameter `UNDOC_XYCB`. -/
theorem registerCopyForms : Obligations.RegisterCopyForms := by
  unfold Obligations.RegisterCopyForms
  constructor
  · rintro i s k x d r _ v w h rfl hv hw
    rw [exec_eq_run, shapeOf_of_rotCopy h, Shape.run, rotateCopy_eq k x d r s hv hw, ← rotFlags_eq]
    exact ⟨fun ha => ifCopyAdmitted_of_admitted ha _, fun hr => ifCopyAdmitted_refuse hr _⟩
  · rintro i s on b x d r _ w h rfl hw
    rw [exec_eq_run, shapeOf_of_resSetCopy h, Shape.run, changeCopy_eq (resSetByte on b) x d r s hw]
    exact ⟨fun ha => ifCopyAdmitted_of_admitted ha _, fun hr => ifCopyAdmitted_refuse hr _⟩

/-! ## RLD and RRD -/

/-- Two nibbles put together with OR are a byte's number. -/
theorem toNat_or_nibbles {x y : Byte} {m n : Nat} (hx : x.toNat = m * 16) (hy : y.toNat = n) (hn : n < 16) :
    (x ||| y).toNat = m * 16 + n := by
  rw [BitVec.toNat_or, hx, hy, Nat.mul_comm]
  exact (Nat.two_pow_add_eq_or_of_lt (i := 4) hn m).symm

/-- The high nibble in its place, as a mask and as a quotient. -/
theorem and_0xF0_toNat (v : Byte) : (v &&& 0xF0).toNat = v.toNat / 16 * 16 := by
  revert v
  decide

/-- The low nibble moved up. -/
theorem shiftLeft_four_toNat (v : Byte) : (v <<< 4).toNat = v.toNat % 16 * 16 := by
  rw [BitVec.toNat_shiftLeft, Nat.shiftLeft_eq]
  omega

/-- The high nibble moved down. -/
theorem shiftRight_four_toNat (v : Byte) : (v >>> 4).toNat = v.toNat / 16 := by
  rw [BitVec.toNat_ushiftRight, Nat.shiftRight_eq_div_pow]

/-- A nibble rotate (R319, R320): the new byte at HL, the new A, and the flags from it. -/
theorem nibbleRotate_eq (f : Byte → Byte → Byte × Byte) (s : State) {r w : Byte} (h : f s.main.a (s.memRead .data0 s.main.hl) = (r, w)) :
    nibbleRotate f s = .next (({ s.memWrite s.main.hl w with main := { s.main with a := r } }.setFlags
      (rotFlags r s.flags.c)).done plainRecord 18) := by
  rw [nibbleRotate, h, State.notifyPlain_memWrite, byteFlags_eq_rotFlags, State.memWrite_eq]
  rfl

/-- Settles O57: the masks and shifts of each row are the nibbles that it moves. -/
theorem nibbleRotates : Obligations.NibbleRotates := by
  unfold Obligations.NibbleRotates
  rintro s x hx _ w r rfl hw hr
  have hlow (v : Byte) : v.toNat % 16 < 16 := Nat.mod_lt _ (by decide)
  have hhigh (v : Byte) : v.toNat / 16 < 16 := by omega
  rw [← rotFlags_eq]
  simp only [List.mem_cons, List.not_mem_nil, or_false] at hx
  obtain rfl | rfl := hx
  · change execRld s = _
    refine nibbleRotate_eq _ s (Prod.ext ?_ ?_) <;> apply BitVec.eq_of_toNat_eq
    · exact (toNat_or_nibbles (and_0xF0_toNat _) (shiftRight_four_toNat _) (hhigh _)).trans hr.symm
    · exact (toNat_or_nibbles (shiftLeft_four_toNat _) (and_0x0F_toNat _) (hlow _)).trans hw.symm
  · change execRrd s = _
    refine nibbleRotate_eq _ s (Prod.ext ?_ ?_) <;> apply BitVec.eq_of_toNat_eq
    · exact (toNat_or_nibbles (and_0xF0_toNat _) (and_0x0F_toNat _) (hlow _)).trans hr.symm
    · exact (toNat_or_nibbles (shiftLeft_four_toNat _) (shiftRight_four_toNat _) (hhigh _)).trans hw.symm

end Sys2Proof.Machine
end

section
/-! PROOFS. The jumps, calls, restarts and returns (spec/48_jump_call_return.md R330 to R343) and the single port accesses (spec/49_io.md R360
to R365). -/

namespace Sys2Proof.Machine

/-! ## Jumps -/

/-- A relative jump (R332, R333). -/
theorem jumpRel_eq (taken : Bool) (e : Byte) (t u : Nat) (s : State) :
    jumpRel taken e t u s = .next (if taken then { s with pc := s.pc + sext8 e }.done plainRecord t else s.done plainRecord u) := rfl

/-- DJNZ jumps unless B was 1 (R334). -/
theorem execDjnz_eq (e : Byte) (s : State) :
    execDjnz e s = .next (if s.main.b = 1 then { s with main := { s.main with b := 0 } }.done plainRecord 8
      else { s with main := { s.main with b := s.main.b - 1 }, pc := s.pc + sext8 e }.done plainRecord 13) := by
  rw [execDjnz, sub_bne_zero, jumpRel_eq]
  by_cases hb : s.main.b = 1
  · rw [hb]
    rfl
  · rw [if_neg hb, if_pos (bne_iff_ne.mpr hb)]
    rfl

/-- Settles O58: the jumps set PC and nothing else, and DJNZ is `execDjnz_eq`. -/
theorem jumpForms : Obligations.JumpForms := by
  unfold Obligations.JumpForms
  refine ⟨fun _ _ => rfl, fun s cc nn => ?_, fun s e => jumpRel_eq true e 12 12 s,
    fun s cc e => jumpRel_eq (condHolds cc.cond s.flags) e 12 7 s, fun s e => execDjnz_eq e s, fun _ => rfl, fun _ => rfl, fun _ => rfl,
    fun _ => ⟨rfl, rfl, rfl, rfl, rfl, rfl, rfl, rfl⟩⟩
  change execJpCcNn cc nn s = _
  rw [execJpCcNn]
  cases condHolds cc s.flags <;> rfl

/-! ## Calls and restarts -/

/-- A conditional call whose condition holds is the call (R338). -/
theorem execCallCcNn_of_holds {cc : Cond} {s : State} (h : condHolds cc s.flags = true) (nn : Word) : execCallCcNn cc nn s = call nn 17 s := by
  rw [execCallCcNn, if_pos h]
  rfl

theorem execCallCcNn_of_not {cc : Cond} {s : State} (h : condHolds cc s.flags = false) (nn : Word) :
    execCallCcNn cc nn s = .next (s.done plainRecord 10) := by
  rw [execCallCcNn, h]
  rfl

/-- The target of a restart is eight times its code (R343). -/
theorem rst_target (p : Oct) : word 0x00 (BitVec.ofNat 8 (p.toNat * 8)) = BitVec.ofNat 16 (8 * p.toNat) := by
  cases p <;> rfl

/-- A call pushes PC and changes nothing but PC, SP and memory (R337). -/
theorem call_pushes (v : Word) (n : Nat) (s : State) :
    ∃ t, call v n s = .next t ∧ Pushed s t s.pc ∧ t = { s with pc := v, sp := t.sp, mem := t.mem }.done plainRecord n := by
  refine ⟨_, call_eq v n s, (pushed_push16 s s.pc).congr rfl rfl rfl rfl rfl rfl rfl rfl, ?_⟩
  exact congrArg (fun u : State => (u.setPc v).done plainRecord n) (State.push16_eq s s.pc)

/-! ## Returns -/

/-- A conditional return whose condition holds takes PC from the stack (R340). -/
theorem execRetCc_of_holds {cc : Cond} {s : State} (h : condHolds cc s.flags = true) : execRetCc cc s = ret 11 s := by
  rw [execRetCc, if_pos h]
  rfl

theorem execRetCc_of_not {cc : Cond} {s : State} (h : condHolds cc s.flags = false) : execRetCc cc s = .next (s.done plainRecord 5) := by
  rw [execRetCc, h]
  rfl

/-- A return from an interrupt is a return that also copies IFF2 into IFF1 (R341, R342). -/
theorem retInt_eq (s : State) :
    retInt s = .next ({ s with pc := s.stackTop, sp := s.sp + 2, iff1 := s.iff2 }.done ⟨true, false, false, false⟩ 14) := rfl

/-- Settles O59: every row is a call, a return or a return from an interrupt, or sends its record and does nothing. -/
theorem callAndReturnForms : Obligations.CallAndReturnForms := by
  unfold Obligations.CallAndReturnForms
  refine ⟨fun i s v hi => ?_, fun s cc nn h => execCallCcNn_of_not h nn, fun i s hi => ?_, fun s cc h => execRetCc_of_not h,
    fun i s hi => ?_⟩
  · have hexec : exec i s = call v (tstates i).1 s := by
      obtain rfl | ⟨cc, rfl, h⟩ | ⟨p, rfl, rfl⟩ := hi
      · rfl
      · exact execCallCcNn_of_holds h v
      · exact congrArg (call · 11 s) (rst_target p)
    rw [hexec]
    exact call_pushes v (tstates i).1 s
  · have hexec : exec i s = ret (tstates i).1 s := by
      obtain rfl | ⟨cc, rfl, h⟩ := hi
      · rfl
      · exact execRetCc_of_holds h
    rw [hexec]
    exact ret_eq (tstates i).1 s
  · have hexec : exec i s = retInt s := by obtain rfl | ⟨y, rfl⟩ := hi <;> rfl
    rw [hexec]
    exact retInt_eq s

/-! ## Port accesses -/

/-- A port read into a register (R361). -/
theorem inputReg_eq (r : Reg8) (s : State) :
    inputReg r s = .next { (s.setReg r (s.portValue s.main.c)).setFlags (rotFlags (s.portValue s.main.c) s.flags.c) with
      events := .portRead s.main.c (s.portValue s.main.c) :: .notify plainRecord :: s.events
      cycles := s.cycles + 12 } := rfl

/-- A port read into the flags only (R362). -/
theorem execInFPortC_eq (s : State) :
    execInFPortC s = .next { s.setFlags (rotFlags (s.portValue s.main.c) s.flags.c) with
      events := .portRead s.main.c (s.portValue s.main.c) :: .notify plainRecord :: s.events
      cycles := s.cycles + 12 } := rfl

/-- Settles O60: the byte read is the host's answer of the step, and the flags of IN r,(C) and IN F,(C) follow it. -/
theorem portForms : Obligations.PortForms := by
  unfold Obligations.PortForms
  refine ⟨fun s n => ⟨s.portValue n, rfl⟩, fun s r => ⟨s.portValue s.main.c, ?_⟩, fun s => ⟨s.portValue s.main.c, ?_⟩, fun _ _ => rfl,
    fun _ _ => rfl, fun _ => rfl⟩
  · rw [← rotFlags_eq]
    exact inputReg_eq r s
  · rw [← rotFlags_eq]
    exact execInFPortC_eq s

end Sys2Proof.Machine
end

section
/-! PROOFS. The boundary, the acceptances and the return after one (spec/60_exceptions.md R402 to R412), and the state after reset
(spec/70_reset_and_hazards.md R440). -/

namespace Sys2Proof.Machine

/-! ## The boundary -/

/-- Unless a wasted DD or FD inhibits it, a pending NMI is accepted, whatever IFF1 and the inhibit of EI say (R404). -/
theorem boundary_of_nmiReq {s : State} (hp : s.intInhibit ≠ .afterPrefix) (hnmi : s.nmiReq = true) : boundary s = .nmi := by
  simp [boundary, hp, hnmi]

/-- With no NMI pending, INT is accepted when it is requested and enabled (R403, R404). -/
theorem boundary_eq_int_iff {s : State} (hp : s.intInhibit ≠ .afterPrefix) (hnmi : s.nmiReq = false) :
    boundary s = .int ↔ s.intReq = true ∧ s.iff1 = true ∧ s.intInhibit = .none := by
  simp [boundary, maskableEnabled, hp, hnmi]

/-- INT is accepted only with IFF1 set (R403). -/
theorem boundary_ne_int {s : State} (h : s.iff1 = false) : boundary s ≠ .int := by
  unfold boundary
  split_ifs with _ _ hint
  · simp
  · simp
  · simp [maskableEnabled, h] at hint
  · simp

/-- An accepted NMI is the whole step (R404). -/
theorem step_of_nmi {s : State} (hb : boundary s.sample = .nmi) : step s = .next (acceptNmi s.sample) := by
  rw [step, hb]

/-- An accepted INT is the whole step (R404). -/
theorem step_of_int {s : State} (hb : boundary s.sample = .int) : step s = acceptInt s.sample := by
  rw [step, hb]

/-- Settles O20: the order is that of the tests in `boundary`, and an NMI entry clears IFF1, without which INT is not accepted. -/
theorem boundaryPriority : Obligations.BoundaryPriority := by
  unfold Obligations.BoundaryPriority
  refine ⟨fun s hp => ?_, fun s => boundary_of_nmiReq, fun s => boundary_eq_int_iff, fun s => step_of_nmi, fun s => step_of_int,
    fun s t hb h => ?_⟩
  · rw [boundary, hp]
    rfl
  · rw [step_of_nmi hb] at h
    obtain rfl := Host.Outcome.next.inj h
    apply boundary_ne_int
    rw [State.sample_iff1, acceptNmi_eq]

/-! ## NMI -/

/-- An NMI acceptance pushes PC (R409). -/
theorem pushed_acceptNmi (s : State) : Pushed s (acceptNmi s) s.pc :=
  (pushed_takeInterrupt { s with nmiReq := false, iff1 := false }).congr rfl rfl rfl rfl rfl rfl rfl rfl

/-- Settles O21: the acceptance is the whole step, and `acceptNmi_eq` says what it leaves. -/
theorem nmiEntry : Obligations.NmiEntry := by
  unfold Obligations.NmiEntry
  intro s hb
  have hpushed : Pushed s.sample (acceptNmi s.sample) s.pc := by simpa using pushed_acceptNmi s.sample
  refine ⟨_, step_of_nmi hb, ?_⟩
  rw [acceptNmi_eq] at hpushed ⊢
  refine ⟨rfl, rfl, ?_, rfl, rfl, ?_, rfl, ?_, hpushed, rfl⟩ <;> simp

/-! ## Maskable interrupts -/

/-- A maskable acceptance leaves what R405 says, wherever it goes and however long it takes. -/
theorem entered_takeInt (s : State) (v : Word) (n : Nat) : Entered s ((s.takeInt.setPc v).tick n) := by
  have hpushed : Pushed s s.takeInt s.pc :=
    (pushed_takeInterrupt { s with iff1 := false, iff2 := false }).congr rfl rfl rfl rfl rfl rfl rfl rfl
  rw [takeInt_eq] at hpushed ⊢
  exact ⟨rfl, rfl, rfl, rfl, rfl, hpushed.congr rfl rfl rfl rfl rfl rfl rfl rfl, rfl⟩

theorem takeInt_cycles (s : State) : s.takeInt.cycles = s.cycles := by
  rw [takeInt_eq]

theorem isRstByte_iff {b : Byte} : isRstByte b = true ↔ b &&& 0xC7 = 0xC7 := beq_iff_eq

/-- The target of a restart opcode is what it has beyond 0xC7 (R406). -/
theorem rstByte_target {b : Byte} (h : b &&& 0xC7 = 0xC7) : (word 0x00 (b &&& 0x38)).toNat = b.toNat - 0xC7 := by
  revert b
  decide

/-- Settles O22: each mode is the common entry with its own target and T-states. -/
theorem maskableEntry : Obligations.MaskableEntry := by
  unfold Obligations.MaskableEntry
  refine ⟨fun s hb hm hrst => ?_, fun s hb hm hrst => ?_, fun s hb hm => ?_, fun s hb hm => ?_⟩
  all_goals rw [step_of_int hb, acceptInt, State.sample_im, hm]
  · refine ⟨enterMode0 s.sample, if_pos (isRstByte_iff.mpr hrst), entered_takeInt _ _ _, rstByte_target hrst, ?_⟩
    simp [enterMode0, takeInt_cycles]
  · exact if_neg (fun h => hrst (isRstByte_iff.mp h))
  · refine ⟨enterMode1 s.sample, rfl, entered_takeInt _ _ _, rfl, ?_⟩
    simp [enterMode1, takeInt_cycles]
  · refine ⟨enterMode2 s.sample, rfl, entered_takeInt _ _ _, ?_, ?_⟩
    · simp [enterMode2, takeInt_cycles]
    · simp [enterMode2, State.memRead16]

/-! ## The return after an acceptance -/

/-- A return from an interrupt on a stack that holds PC comes back to PC and SP, with IFF1 from IFF2 (R412). -/
theorem retInt_of_pushed {s t : State} (h : Pushed s t s.pc) (w : s.mem.wf = true) (h1 : s.isRam (s.sp - 1) = true)
    (h2 : s.isRam (s.sp - 2) = true) : ∃ u, retInt t = .next u ∧ u.pc = s.pc ∧ u.sp = s.sp ∧ u.iff1 = t.iff2 := by
  refine ⟨_, retInt_eq t, h.stackTop w h1 h2, ?_, rfl⟩
  change t.sp + 2 = s.sp
  rw [h.sp, BitVec.sub_add_cancel]

/-- Every maskable acceptance leaves what R405 says. -/
theorem entered_acceptInt {s t : State} (h : acceptInt s = .next t) : Entered s t := by
  obtain ⟨-, -, rfl⟩ | ⟨-, rfl⟩ | ⟨-, rfl⟩ := acceptInt_cases h <;> exact entered_takeInt s _ _

/-- Settles O24: every acceptance pushes PC; an NMI leaves IFF2, and a maskable acceptance clears it. -/
theorem returnAfterAcceptance : Obligations.ReturnAfterAcceptance := by
  unfold Obligations.ReturnAfterAcceptance
  constructor
  · intro s y w h1 h2 hiff
    obtain ⟨t, ht, hpc, hsp, hiff1⟩ := retInt_of_pushed (pushed_acceptNmi s) w h1 h2
    rw [acceptNmi_eq] at hiff1
    exact ⟨t, ht, hpc, hsp, hiff1.trans hiff⟩
  · intro s t w h1 h2 ht
    have he : Entered s t := entered_acceptInt ht
    obtain ⟨u, hu, hpc, hsp, hiff1⟩ := retInt_of_pushed he.pushed w h1 h2
    exact ⟨u, hu, hpc, hsp, hiff1.trans he.iff2⟩

/-! ## Reset -/

/-- Settles O28: nothing is enabled or halted after reset, and memory lists nothing. -/
theorem resetState : Obligations.ResetState := by
  unfold Obligations.ResetState
  exact ⟨⟨State.reset_mem_wf, nofun, nofun⟩, rfl, rfl, rfl, rfl, rfl, rfl, rfl, rfl, rfl, rfl, rfl⟩

end Sys2Proof.Machine
end

section
/-! PROOFS. The frame of memory (spec/20_memory.md sections 1 to 3), shape by shape, and the table of what the rows store against the shapes. -/

namespace Sys2Proof.Machine

/-! ## The frame of memory -/

/-- The address of the byte that a write of an 8-bit operand stores, if it is in memory. -/
def Loc8.stores (l : Loc8) (s : State) : List Word :=
  match l with
  | .mem p => [s.addr p]
  | .reg _ | .half _ _ => []

/-- The addresses of the bytes that one iteration of a block instruction stores (R216, R367). -/
def BlockOp.stores (o : BlockOp) (s : State) : List Word :=
  match o with
  | .move => [s.addr .de]
  | .input => [s.addr .hl]
  | .search | .output => []

/-- The addresses of the bytes that a row of the shape stores, in the state it runs in. -/
def Shape.stores (sh : Shape) (s : State) : List Word :=
  match sh with
  | .load8 l _ _ | .modify8 _ l _ | .change8 _ l _ => l.stores s
  | .rotateCopy _ x d _ | .changeCopy _ x d _ => [s.addr (.idx x d)]
  | .nibbleRotate _ => [s.addr .hl]
  | .store16Mem _ nn _ => [nn, nn + 1]
  | .push _ _ | .call _ _ => [s.sp - 1, s.sp - 2]
  | .callIf cc _ => if condHolds cc s.flags then [s.sp - 1, s.sp - 2] else []
  | .exchangeStack _ _ => [s.sp, s.sp + 1]
  | .blockOnce o _ | .blockRepeat o _ => o.stores s
  | _ => []

/-- The table of R61 is the shapes'. -/
theorem stores_shapeOf (i : Instr) (s : State) : (shapeOf i).stores s = storeAddrs i s := by
  cases i <;> rfl

theorem bytesKept_refl (s : State) (addrs : List Word) : bytesKept s s addrs := fun _ _ _ => rfl

/-- What memory reads as depends on memory, the parameters and the draw alone. -/
theorem bytesKept.congr {s t u : State} {addrs : List Word} (h : bytesKept s u addrs) (hm : t.mem = u.mem) (hp : t.params = u.params)
    (hd : t.draw = u.draw) : bytesKept s t addrs :=
  fun acc a ha => (State.memRead_congr hm hp hd acc a).trans (h acc a ha)

/-- A write of an 8-bit operand leaves every byte but the one it stores. -/
theorem bytesKept_set8 (s : State) (l : Loc8) (v : Byte) : bytesKept s (s.set8 l v) (l.stores s) := by
  cases l with
  | reg r => exact bytesKept_refl s []
  | mem p => exact bytesKept_memWrite s (s.addr p) v
  | half x h => cases h <;> exact fun acc a _ => State.setIdx_memRead s x _ acc a

/-- An iteration of a block instruction leaves every byte but the one it stores. -/
theorem BlockOp.bytesKept_iterate (o : BlockOp) (d : Dir) (rep : Bool) (s : State) : bytesKept s (o.iterate d rep s) (o.stores s) := by
  cases o with
  | move => exact (BlockOp.iterate_store (o := .move) (blockMove_mem s d) rep).1
  | input => exact (BlockOp.iterate_store (o := .input) (blockIn_mem s d) rep).1
  | search => exact (bytesKept_refl s []).congr (blockSearch_mem s d) rfl rfl
  | output => exact (bytesKept_refl s []).congr (blockOut_mem s d) rfl rfl

/-- A push leaves every byte but its two. -/
theorem bytesKept_push16 (s : State) (v : Word) : bytesKept s (s.push16 v) [s.sp - 1, s.sp - 2] := (pushed_push16 s v).others

/-- Every row leaves every byte but those it stores. -/
theorem Shape.run_bytesKept {sh : Shape} {s t : State} (h : sh.run s = .next t) : bytesKept s t (sh.stores s) := by
  cases sh with
  | load8 l | modify8 _ l | change8 _ l =>
    simp only [Shape.run, load8_eq, modify8_eq, change8_eq] at h
    obtain rfl := Host.Outcome.next.inj h
    exact (bytesKept_set8 s l _).congr rfl rfl rfl
  | rotateCopy k x d r =>
    rw [Shape.run, rotateCopy_eq k x d r s rfl rfl] at h
    obtain rfl := Host.Outcome.next.inj (ifCopyAdmitted_next h)
    exact (bytesKept_memWrite s (s.addr (.idx x d)) _).congr rfl rfl rfl
  | changeCopy f x d r =>
    rw [Shape.run, changeCopy_eq f x d r s rfl] at h
    obtain rfl := Host.Outcome.next.inj (ifCopyAdmitted_next h)
    exact (bytesKept_memWrite s (s.addr (.idx x d)) _).congr rfl rfl rfl
  | nibbleRotate =>
    obtain rfl := Host.Outcome.next.inj h
    exact (bytesKept_memWrite s.notifyPlain s.main.hl _).congr rfl rfl rfl
  | store16Mem _ nn =>
    obtain rfl := Host.Outcome.next.inj h
    exact (bytesKept_memWrite16 s.notifyPlain nn _).congr rfl rfl rfl
  | push | call =>
    obtain rfl := Host.Outcome.next.inj h
    exact (bytesKept_push16 s.notifyPlain _).congr rfl rfl rfl
  | callIf =>
    obtain ⟨hc, rfl⟩ | ⟨hc, rfl⟩ := next_ite_cases h
    · rw [Shape.stores, if_pos hc]
      exact (bytesKept_push16 s.notifyPlain _).congr rfl rfl rfl
    · exact bytesKept_refl s _
  | exchangeStack q =>
    rw [Shape.run, exchangeStack_eq] at h
    obtain rfl := Host.Outcome.next.inj h
    exact fun acc a ha => (State.set16_memRead _ _ _ _ _).trans (bytesKept_storeAtSp s (s.get16 q) acc a ha)
  | blockOnce o d =>
    obtain rfl := Host.Outcome.next.inj ((blockShape_run o d false s).symm.trans h)
    exact o.bytesKept_iterate d false s
  | blockRepeat o d =>
    obtain rfl := Host.Outcome.next.inj ((blockShape_run o d true s).symm.trans h)
    exact o.bytesKept_iterate d true s
  | jumpIf | jumpRelIf | djnz | retIf => obtain ⟨-, rfl⟩ | ⟨-, rfl⟩ := next_ite_cases h <;> exact bytesKept_refl s []
  | load16Imm | load16Mem | loadSp | pop | addPair | carryPair | stepPair =>
    obtain rfl := Host.Outcome.next.inj h
    exact fun acc a _ => State.set16_memRead _ _ _ acc a
  | _ =>
    obtain rfl := Host.Outcome.next.inj h
    exact bytesKept_refl s []

/-- Settles O12: the row stores what its shape stores. -/
theorem memoryFrame : Obligations.MemoryFrame := by
  unfold Obligations.MemoryFrame
  intro i s t h
  rw [exec_eq_run] at h
  rw [← stores_shapeOf]
  exact Shape.run_bytesKept h

end Sys2Proof.Machine
end

section
/-! PROOFS. The frame of the registers, the flags and the control bits (spec/10_state.md sections 2, 4 and 5), shape by shape, and the table of what
the rows write against the shapes. -/

namespace Sys2Proof.Machine

/-! ## A piece of state through the updates -/

/-- The flag that an item is, if it is one. -/
def Item.flagOf (x : Item) (fl : Flags) : Option Bool :=
  match x with
  | .flagS => some fl.s
  | .flagZ => some fl.z
  | .flagF5 => some fl.f5
  | .flagH => some fl.h
  | .flagF3 => some fl.f3
  | .flagPV => some fl.pv
  | .flagN => some fl.n
  | .flagC => some fl.c
  | _ => none

/-- The pieces of state that a write of an 8-bit operand writes. -/
def Loc8.items (l : Loc8) : List Item :=
  match l with
  | .reg r => [.reg r]
  | .mem _ => []
  | .half x _ => [idxItem x]

section
variable {x : Item} {s u : State}

theorem Item.same.refl (x : Item) (s : State) : x.same s s := by
  cases x <;> rfl

/-- PC, memory, the records and the T-states are no items. -/
theorem Item.same.outside (h : x.same s u) (pc : Word) (mem : Memory) (events : List Event) (cycles : Nat) :
    x.same s { u with pc := pc, mem := mem, events := events, cycles := cycles } := by
  cases x <;> exact h

theorem Item.same.emit (h : x.same s u) (e : Event) : x.same s (u.emit e) := h.outside _ _ _ _

theorem Item.same.tick (h : x.same s u) (n : Nat) : x.same s (u.tick n) := h.outside _ _ _ _

theorem Item.same.setPc (h : x.same s u) (v : Word) : x.same s (u.setPc v) := h.outside _ _ _ _

theorem Item.same.memWrite (h : x.same s u) (a : Word) (v : Byte) : x.same s (u.memWrite a v) := by
  rw [State.memWrite_eq]
  exact h.outside _ _ _ _

theorem Item.same.setSp (h : x.same s u) (hx : x ≠ .sp) (v : Word) : x.same s { u with sp := v } := by
  cases x with
  | sp => exact absurd rfl hx
  | _ => exact h

theorem Item.same.setReg {r : Reg8} (h : x.same s u) (hx : x ≠ .reg r) (v : Byte) : x.same s (u.setReg r v) := by
  cases x with
  | reg y =>
    have hy : y ≠ r := fun e => hx (e ▸ rfl)
    change (u.main.set r v).get y = _
    rw [Bank.get_set, if_neg hy]
    exact h
  | flagS | flagZ | flagF5 | flagH | flagF3 | flagPV | flagN | flagC => cases r <;> exact h
  | _ => exact h

theorem Item.same.setIdx {y : Idx} (h : x.same s u) (hx : x ≠ idxItem y) (v : Word) : x.same s (u.setIdx y v) := by
  cases y with
  | ix =>
    cases x with
    | ix => exact absurd rfl hx
    | _ => exact h
  | iy =>
    cases x with
    | iy => exact absurd rfl hx
    | _ => exact h

theorem Item.same.set8 {l : Loc8} (h : x.same s u) (hx : x ∉ l.items) (v : Byte) : x.same s (u.set8 l v) := by
  cases l with
  | reg r => exact h.setReg (List.ne_of_not_mem_cons hx) v
  | mem p => exact h.memWrite (u.addr p) v
  | half y k => cases k <;> exact h.setIdx (List.ne_of_not_mem_cons hx) _

/-- A write of the flags writes those that differ. -/
theorem Item.same.setFlags {fl : Flags} (h : x.same s u) (hx : x.flagOf fl = x.flagOf s.flags) : x.same s (u.setFlags fl) := by
  cases x with
  | flagS | flagZ | flagF5 | flagH | flagF3 | flagPV | flagN | flagC =>
    simpa [Item.same, State.flags, Item.flagOf] using hx
  | reg r => cases r <;> exact h
  | _ => exact h

theorem Item.same.setAF {r : Byte × Flags} (h : x.same s u) (ha : x ≠ .reg .a) (hx : x.flagOf r.2 = x.flagOf s.flags) :
    x.same s (u.setAF r) :=
  (h.setReg ha r.1).setFlags hx

/-- An item that is no flag is none of any flags. -/
theorem Item.flagOf_of_not_mem (h : x ∉ allFlags) (fl : Flags) : x.flagOf fl = none := by
  cases x with
  | flagS | flagZ | flagF5 | flagH | flagF3 | flagPV | flagN | flagC => exact absurd (by decide) h
  | _ => rfl

theorem Item.same.set16 {q : Reg16} (h : x.same s u) (hx : x ∉ q.items) (v : Word) : x.same s (u.set16 q v) := by
  cases q with
  | bc | de | hl =>
    exact (h.setReg (List.ne_of_not_mem_cons hx) (hiByte v)).setReg (List.ne_of_not_mem_cons (List.not_mem_of_not_mem_cons hx)) (loByte v)
  | sp => exact h.setSp (List.ne_of_not_mem_cons hx) v
  | ix => exact h.setIdx (y := .ix) (List.ne_of_not_mem_cons hx) v
  | iy => exact h.setIdx (y := .iy) (List.ne_of_not_mem_cons hx) v
  | af =>
    have hset : u.set16 .af v = u.setAF (hiByte v, Flags.ofByte (loByte v)) := by
      simp [State.set16, State.setMain, Bank.setAf, State.setAF]
    have hflags := Item.flagOf_of_not_mem (List.not_mem_of_not_mem_cons hx)
    rw [hset]
    exact h.setAF (List.ne_of_not_mem_cons hx) ((hflags _).trans (hflags _).symm)

theorem Item.same.push16 (h : x.same s u) (hx : x ≠ .sp) (v : Word) : x.same s (u.push16 v) := by
  rw [State.push16_eq]
  exact (h.setSp hx (u.sp - 2)).outside _ _ _ _

end

/-! ## What a shape writes -/

/-- The pieces of state other than flags that one iteration of a block instruction writes. -/
def BlockOp.items (o : BlockOp) : List Item :=
  match o with
  | .move => Reg16.bc.items ++ Reg16.de.items ++ Reg16.hl.items
  | .search => Reg16.bc.items ++ Reg16.hl.items
  | .input | .output => .reg .b :: Reg16.hl.items

/-- The flags after one iteration of a block instruction (R216, R220, R366). -/
def BlockOp.newFlags (o : BlockOp) (s : State) : Flags :=
  match o with
  | .move => blockMoveFlags (s.memRead .data0 s.main.hl) s.main.a (s.main.bc - 1) s.flags
  | .search => blockSearchFlags (s.memRead .data0 s.main.hl) s.main.a (s.main.bc - 1) s.flags
  | .input | .output => blockIoFlags (s.main.b - 1) s.draw

/-- The pieces of state that a row of the shape writes, but for the flags that it computes, which are `Shape.newFlags`. -/
def Shape.items (sh : Shape) : List Item :=
  match sh with
  | .load8 l _ _ | .modify8 _ l _ | .change8 _ l _ => l.items
  | .alu .cp _ _ => []
  | .alu _ _ _ | .onAcc _ _ | .nibbleRotate _ | .inputA _ | .loadAI | .loadAR => [.reg .a]
  | .rotateCopy _ _ _ r | .changeCopy _ _ _ r | .inputReg r => [.reg r]
  | .load16Imm q _ _ _ | .load16Mem q _ _ _ | .exchangeStack q _ | .addPair q _ _ | .stepPair _ q _ => q.items
  | .loadSp _ _ | .push _ _ | .call _ _ | .callIf _ _ | .ret | .retIf _ => [.sp]
  | .pop q _ => .sp :: q.items
  | .exchangeDEHL => Reg16.de.items ++ Reg16.hl.items
  | .carryPair _ _ => Reg16.hl.items
  | .blockOnce o _ | .blockRepeat o _ => o.items
  | .djnz _ => [.reg .b]
  | .exchangeAF => [.reg .a, .shadow] ++ allFlags
  | .exchangeBanks => [.reg .b, .reg .c, .reg .d, .reg .e, .reg .h, .reg .l, .shadow]
  | .loadIA => [.regI]
  | .loadRA => [.regR]
  | .setIntMode _ => [.im]
  | .di => [.iff1, .iff2]
  | .ei => [.iff1, .iff2, .intInhibit]
  | .retInt => [.sp, .iff1]
  | .halt => [.halted]
  | .wastedPrefix => [.regR, .intInhibit]
  | _ => []

/-- The flags that a row of the shape computes, from the state it runs in; those before for a row that computes none. -/
def Shape.newFlags (sh : Shape) (s : State) : Flags :=
  match sh with
  | .alu op src _ => (aluApply op s.main.a (s.src8 src) s.flags).2
  | .modify8 f l _ => (f (s.get8 l) s.flags).2
  | .rotateCopy k x d _ => (rotOp k (s.get8 (.mem (.idx x d))) s.flags).2
  | .testReg b r => bitFlags b (s.reg r) ((s.reg r).getLsbD 5) ((s.reg r).getLsbD 3) s.flags
  | .testHL b => bitFlags b (s.get8 (.mem .hl)) (Config.bitF5 s.draw) (Config.bitF3 s.draw) s.flags
  | .testIdx b x d =>
    bitFlags b (s.get8 (.mem (.idx x d))) ((s.addr (.idx x d)).getLsbD 13) ((s.addr (.idx x d)).getLsbD 11) s.flags
  | .onAcc f _ => (f s.main.a s.flags).2
  | .onFlags f => f s.main.a s.flags
  | .nibbleRotate f => byteFlags (f s.main.a (s.memRead .data0 s.main.hl)).1 s.flags
  | .addPair dst src _ => (add16 (s.get16 dst) (s.get16 src) s.flags).2
  | .carryPair f src => (f s.main.hl (s.get16 src) s.flags.c).2
  | .blockOnce o _ | .blockRepeat o _ => o.newFlags s
  | .inputReg _ | .inputFlags => byteFlags (s.portValue s.main.c) s.flags
  | .loadAI => ldAIrFlags s.i s.iff2 s.flags
  | .loadAR => ldAIrFlags s.r s.iff2 s.flags
  | _ => s.flags

/-- One iteration of a block instruction leaves every item but those it writes and the flags that it changes. -/
theorem BlockOp.same_body {o : BlockOp} {x : Item} {s : State} (hx : x ∉ o.items) (hf : x.flagOf (o.newFlags s) = x.flagOf s.flags) (d : Dir) :
    x.same s (o.body d s.notifyPlain) := by
  have hn : x.same s s.notifyPlain := (Item.same.refl x s).emit _
  cases o with
  | move =>
    simp only [BlockOp.items, List.mem_append, not_or] at hx
    obtain ⟨⟨hbc, hde⟩, hhl⟩ := hx
    exact ((((hn.memWrite s.main.de _).set16 hhl (d.step s.main.hl)).set16 hde _).set16 hbc _).setFlags hf
  | search =>
    simp only [BlockOp.items, List.mem_append, not_or] at hx
    obtain ⟨hbc, hhl⟩ := hx
    exact ((hn.set16 hhl (d.step s.main.hl)).set16 hbc _).setFlags hf
  | input =>
    exact ((((hn.emit _).memWrite s.main.hl _).set16 (q := .hl) (List.not_mem_of_not_mem_cons hx) (d.step s.main.hl)).setReg
      (List.ne_of_not_mem_cons hx) _).setFlags hf
  | output =>
    exact (((hn.emit _).set16 (q := .hl) (List.not_mem_of_not_mem_cons hx) (d.step s.main.hl)).setReg
      (List.ne_of_not_mem_cons hx) _).setFlags hf

/-- Every row leaves every item but those it writes and the flags that it changes. -/
theorem Shape.run_same {sh : Shape} {x : Item} {s t : State} (hx : x ∉ sh.items) (hf : x.flagOf (sh.newFlags s) = x.flagOf s.flags)
    (h : sh.run s = .next t) : x.same s t := by
  have hn : x.same s s.notifyPlain := (Item.same.refl x s).emit _
  cases sh with
  | load8 | change8 =>
    obtain rfl := Host.Outcome.next.inj h
    exact (hn.set8 hx _).tick _
  | modify8 =>
    obtain rfl := Host.Outcome.next.inj h
    exact ((hn.set8 hx _).setFlags hf).tick _
  | alu op =>
    obtain rfl := Host.Outcome.next.inj h
    cases op with
    | cp => exact (hn.setFlags hf).tick _
    | _ => exact (hn.setAF (List.ne_of_not_mem_cons hx) hf).tick _
  | onAcc | loadAI | loadAR =>
    obtain rfl := Host.Outcome.next.inj h
    exact (hn.setAF (List.ne_of_not_mem_cons hx) hf).tick _
  | nibbleRotate =>
    obtain rfl := Host.Outcome.next.inj h
    exact ((hn.memWrite _ _).setAF (List.ne_of_not_mem_cons hx) hf).tick _
  | rotateCopy =>
    obtain rfl := Host.Outcome.next.inj (ifCopyAdmitted_next h)
    exact (((hn.memWrite _ _).setReg (List.ne_of_not_mem_cons hx) _).setFlags hf).tick _
  | changeCopy =>
    obtain rfl := Host.Outcome.next.inj (ifCopyAdmitted_next h)
    exact ((hn.memWrite _ _).setReg (List.ne_of_not_mem_cons hx) _).tick _
  | testReg | testHL | testIdx | onFlags =>
    obtain rfl := Host.Outcome.next.inj h
    exact (hn.setFlags hf).tick _
  | load16Imm | load16Mem =>
    obtain rfl := Host.Outcome.next.inj h
    exact (((Item.same.refl x s).emit _).set16 hx _).tick _
  | loadSp =>
    obtain rfl := Host.Outcome.next.inj h
    exact (((Item.same.refl x s).emit _).setSp (List.ne_of_not_mem_cons hx) _).tick _
  | store16Mem =>
    obtain rfl := Host.Outcome.next.inj h
    exact ((hn.memWrite _ _).memWrite _ _).tick _
  | push =>
    obtain rfl := Host.Outcome.next.inj h
    exact (hn.push16 (List.ne_of_not_mem_cons hx) _).tick _
  | call =>
    obtain rfl := Host.Outcome.next.inj h
    exact ((hn.push16 (List.ne_of_not_mem_cons hx) _).setPc _).tick _
  | callIf =>
    obtain ⟨-, rfl⟩ | ⟨-, rfl⟩ := next_ite_cases h
    · exact ((hn.push16 (List.ne_of_not_mem_cons hx) _).setPc _).tick _
    · exact hn.tick _
  | ret =>
    obtain rfl := Host.Outcome.next.inj h
    exact ((((Item.same.refl x s).emit _).setSp (List.ne_of_not_mem_cons hx) (s.sp + 2)).setPc _).tick _
  | retIf =>
    obtain ⟨-, rfl⟩ | ⟨-, rfl⟩ := next_ite_cases h
    · exact ((((Item.same.refl x s).emit _).setSp (List.ne_of_not_mem_cons hx) (s.sp + 2)).setPc _).tick _
    · exact ((Item.same.refl x s).emit _).tick _
  | pop =>
    obtain rfl := Host.Outcome.next.inj h
    exact ((hn.setSp (List.ne_of_not_mem_cons hx) _).set16 (List.not_mem_of_not_mem_cons hx) _).tick _
  | exchangeStack =>
    obtain rfl := Host.Outcome.next.inj h
    exact (((hn.memWrite _ _).memWrite _ _).set16 hx _).tick _
  | exchangeDEHL =>
    simp only [Shape.items, List.mem_append, not_or] at hx
    obtain ⟨hde, hhl⟩ := hx
    obtain rfl := Host.Outcome.next.inj h
    exact ((hn.set16 hde s.main.hl).set16 hhl s.main.de).tick _
  | addPair =>
    obtain rfl := Host.Outcome.next.inj h
    exact ((hn.set16 hx _).setFlags hf).tick _
  | carryPair =>
    obtain rfl := Host.Outcome.next.inj h
    exact ((hn.set16 (q := .hl) hx _).setFlags hf).tick _
  | stepPair =>
    obtain rfl := Host.Outcome.next.inj h
    exact (hn.set16 hx _).tick _
  | blockOnce o d =>
    obtain rfl := Host.Outcome.next.inj h
    exact (o.same_body hx hf d).tick _
  | blockRepeat o d =>
    obtain ⟨-, rfl⟩ | ⟨-, rfl⟩ := next_ite_cases h
    · exact ((o.same_body hx hf d).setPc _).tick _
    · exact (o.same_body hx hf d).tick _
  | jumpReg | jump | jumpRel =>
    obtain rfl := Host.Outcome.next.inj h
    exact (hn.setPc _).tick _
  | jumpIf | jumpRelIf =>
    obtain ⟨-, rfl⟩ | ⟨-, rfl⟩ := next_ite_cases h
    · exact (hn.setPc _).tick _
    · exact hn.tick _
  | djnz =>
    have hb : x.same s (s.setReg .b (s.main.b - 1)).notifyPlain := ((Item.same.refl x s).setReg (List.ne_of_not_mem_cons hx) _).emit _
    obtain ⟨-, rfl⟩ | ⟨-, rfl⟩ := next_ite_cases h
    · exact (hb.setPc _).tick _
    · exact hb.tick _
  | inputA =>
    obtain rfl := Host.Outcome.next.inj h
    exact ((hn.emit _).setReg (List.ne_of_not_mem_cons hx) _).tick _
  | inputReg =>
    obtain rfl := Host.Outcome.next.inj h
    exact (((hn.emit _).setReg (List.ne_of_not_mem_cons hx) _).setFlags hf).tick _
  | inputFlags =>
    obtain rfl := Host.Outcome.next.inj h
    exact ((hn.emit _).setFlags hf).tick _
  | outputA | outputReg | outputZero =>
    obtain rfl := Host.Outcome.next.inj h
    exact (hn.emit _).tick _
  | noOperation =>
    obtain rfl := Host.Outcome.next.inj h
    exact hn.tick _
  | exchangeAF | exchangeBanks | loadIA | loadRA | setIntMode | di | ei | retInt | halt | wastedPrefix =>
    -- No operation on an operand: an item is one of those listed, or the record update does not name it.
    obtain rfl := Host.Outcome.next.inj h
    cases x with
    | reg r => cases r <;> simp_all [Shape.items, Item.same, State.reg, Bank.get, State.returnFromInterrupt, allFlags, flagsButC]
    | _ => simp_all [Shape.items, Item.same, State.flags, State.returnFromInterrupt, allFlags, flagsButC]

/-! ## The table -/

/-- The flags that a list of items names, taken from `new`, and the others from `old`. -/
def Flags.over (ws : List Item) (new old : Flags) : Flags where
  s := bif ws.contains .flagS then new.s else old.s
  z := bif ws.contains .flagZ then new.z else old.z
  f5 := bif ws.contains .flagF5 then new.f5 else old.f5
  h := bif ws.contains .flagH then new.h else old.h
  f3 := bif ws.contains .flagF3 then new.f3 else old.f3
  pv := bif ws.contains .flagPV then new.pv else old.pv
  n := bif ws.contains .flagN then new.n else old.n
  c := bif ws.contains .flagC then new.c else old.c

/-- A flag that the list does not name is the old one. -/
theorem Item.flagOf_over {x : Item} {ws : List Item} (h : x ∉ ws) (new old : Flags) : x.flagOf (Flags.over ws new old) = x.flagOf old := by
  have hc : ws.contains x = false := by simpa using h
  cases x with
  | flagS | flagZ | flagF5 | flagH | flagF3 | flagPV | flagN | flagC => simp only [Item.flagOf, Flags.over, hc, cond_false]
  | _ => rfl

/-- The list of each row starts with what its shape writes. -/
theorem items_shapeOf (i : Instr) : (shapeOf i).items = (writes i).take (shapeOf i).items.length := by
  cases i with
  | ldRpNn rp | incRp rp | decRp rp | ldRpIndNn rp => cases rp <;> rfl
  | popQq qq => cases qq <;> rfl
  | _ => rfl

/-- The list of each row names every flag that its shape changes. -/
theorem newFlags_shapeOf (i : Instr) (s : State) : (shapeOf i).newFlags s = Flags.over (writes i) ((shapeOf i).newFlags s) s.flags := by
  cases i with
  | ldRpNn rp | incRp rp | decRp rp | ldRpIndNn rp => cases rp <;> rfl
  | popQq qq => cases qq <;> rfl
  | _ => rfl

/-- Settles O11: the list of each row names all that its shape writes and every flag that it changes. -/
theorem registerFrame : Obligations.RegisterFrame := by
  unfold Obligations.RegisterFrame
  intro i s t x h hx
  rw [exec_eq_run] at h
  refine Shape.run_same (fun hm => hx ?_) ?_ h
  · rw [items_shapeOf] at hm
    exact List.mem_of_mem_take hm
  · rw [newFlags_shapeOf]
    exact Item.flagOf_over hx _ _

end Sys2Proof.Machine
end
